-- ==== Sys2Proof/Word.lean ====
section
/-! DEFINITION. The block's word types, with the widths of spec/00_scope.md rules R4 and R6 to R9,
and its two oscillator names. -/

namespace Sys2Proof

/-- `Fix`: signed Q16.16, a 32-bit two's-complement word (rule R6). `BitVec.toInt` is `raw`. -/
abbrev Fix := BitVec 32

/-- `Code`: an unsigned 12-bit sample, threshold or duty code (rule R7). -/
abbrev Code := BitVec 12

/-- `Phase`: an unsigned 16-bit fraction of a cycle (rule R8). -/
abbrev Phase := BitVec 16

/-- `Tick`: an unsigned 32-bit count of milliseconds (rule R9). -/
abbrev Tick := BitVec 32

/-- A timer period, unsigned, `PERIOD_BITS` = 32 (rule R4). -/
abbrev Period := BitVec 32

/-- A DAC value, unsigned, `DAC_BITS` = 12 (rule R4). -/
abbrev DacCode := BitVec 12

/-- A DAC word, 13 bits: bit 12 = `ref`, bits 11:0 = `value` (20_memory.md rule R55). -/
abbrev DacWord := BitVec 13

/-- A value of the `stage` register, `STAGE_BITS` = 5 (10_state.md rule R21). -/
abbrev StageCode := BitVec 5

/-- The two oscillators, `L` = leader and `F` = follower (rules R1 and R4). -/
inductive Chan where
  | leader
  | follower
deriving DecidableEq, Repr

/-- Oscillator index and timer channel number: leader 0, follower 1 (30_encoding.md rule R88). -/
def Chan.index : Chan → Nat
  | .leader => 0
  | .follower => 1

end Sys2Proof
end

