-- ==== Sys2Proof/Machine/FixedPoint.lean ====
section
/-! DEFINITION. The fixed-point primitives of spec/40_fixed_point.md. Each converts its operands to
integers, computes exactly, and narrows once at the end (rule R112). -/

namespace Sys2Proof.Machine

/-- `FIX_MAX` (00_scope.md rule R6). -/
def fixMax : Fix := 0x7FFFFFFF#32

/-- `FIX_MIN` (rule R6). -/
def fixMin : Fix := 0x80000000#32

/-- `FX_ZERO` = `PITCH_LO` = 0.0 (00_scope.md rule R10). -/
def fxZero : Fix := 0x00000000#32

/-- `FX_HALF` = 0.5 (rule R10): half an LSB of a product before its rounding. -/
def fxHalf : Fix := 0x00008000#32

/-- `FX_ONE` = 1.0 (rule R10). -/
def fxOne : Fix := 0x00010000#32

/-- `PITCH_HI` = 7.0 (rule R10). -/
def pitchHi : Fix := 0x00070000#32

/-- `FX_THOUSAND` = 1000.0 (rule R10). -/
def fxThousand : Fix := 0x03E80000#32

/-- `FX_ADC_MAX` = 4095.0 (rule R10). -/
def fxAdcMax : Fix := 0x0FFF0000#32

/-- `ADC_MAX` = 4095, a `Code` (rule R10). -/
def adcMax : Code := 0xFFF#12

/-- Saturation of an integer to a `Fix` (rule R100). -/
def sat32 (x : Int) : Fix :=
  if x > 2147483647 then fixMax else if x < -2147483648 then fixMin else BitVec.ofInt 32 x

/-- `fx_from_int` (rule R101). -/
def fxFromInt (n : Int) : Fix := sat32 (n * 65536)

/-- `fx_to_int` (rule R102): nearest, ties toward plus infinity. -/
def fxToInt (a : Fix) : Int := (a.toInt + 32768) / 65536

/-- `fx_add` (rule R103). -/
def fxAdd (a b : Fix) : Fix := sat32 (a.toInt + b.toInt)

/-- `fx_sub` (rule R104). -/
def fxSub (a b : Fix) : Fix := sat32 (a.toInt - b.toInt)

/-- `fx_mul` (rule R105): rounded to nearest, ties toward plus infinity. -/
def fxMul (a b : Fix) : Fix := sat32 ((a.toInt * b.toInt + fxHalf.toInt) / 65536)

/-- The rounded quotient of rule R106 for a positive divisor, before saturation. -/
def roundedQuotient (a b : Int) : Int := (2 * a * 65536 + b) / (2 * b)

/-- `fx_div` (rule R106), total: a zero divisor saturates by the dividend's sign. -/
def fxDiv (a b : Fix) : Fix :=
  if b.toInt = 0 then
    if a.toInt ≥ 0 then fixMax else fixMin
  else if b.toInt > 0 then sat32 (roundedQuotient a.toInt b.toInt)
  else sat32 (roundedQuotient (-a.toInt) (-b.toInt))

/-- `fx_abs` (rule R107). -/
def fxAbs (a : Fix) : Fix := if a.toInt ≥ 0 then a else sat32 (-a.toInt)

/-- `fx_min` (rule R108), signed. -/
def fxMin (a b : Fix) : Fix := if a.toInt ≤ b.toInt then a else b

/-- `fx_max` (rule R108), signed. -/
def fxMax (a b : Fix) : Fix := if a.toInt ≤ b.toInt then b else a

/-- `fx_clamp` (rule R109). -/
def fxClamp (v lo hi : Fix) : Fix := fxMax lo (fxMin v hi)

/-- `inv` (rule R111): `ADC_MAX − c`, on integers; it never borrows. -/
def inv (c : Code) : Code := BitVec.ofNat 12 (adcMax.toNat - c.toNat)

/-- `norm` (rule R110): a code over 4095.0. -/
def norm (c : Code) : Fix := fxDiv (fxFromInt c.toNat) fxAdcMax

end Sys2Proof.Machine
end

