-- ==== Sys2Proof/Config.lean ====
section
/-! DEFINITION. What one machine fixes and this model leaves open: the voltage table. The other
parameters of spec/00_scope.md rule R4 have the values the spec takes, written into the types of
Word.lean and the constants of Machine/FixedPoint.lean. -/

namespace Sys2Proof

/-- `VoiceParams`: what the voltage table returns for a voltage (20_memory.md rule R53). -/
structure VoiceParams where
  period : Period
  dacCode : DacCode
deriving DecidableEq, Repr, Inhabited

/-- The external voltage table `lookup` (rule R53, decision D32): an uninterpreted total function,
fixed for a run. It has no body, so no proof can assume a value, a direction or an interpolation
rule (log entry 6). -/
opaque Config.lookup : Fix → VoiceParams

end Sys2Proof
end

