-- ==== Sys2Proof/Machine/State.lean ====
section
/-! DEFINITION. The machine's state as plain data: spec/10_state.md, with the external agents' moves
of spec/20_memory.md rule R64 as data. One-bit registers are `Bool`, `true` = 1 (30_encoding.md
rule R88). -/

namespace Sys2Proof.Machine

/-- The nine ADC channels (20_memory.md rule R51). -/
inductive AdcChannel where
  | cvL
  | knobL
  | cvF
  | knobF
  | pwmKnobL
  | pwmCvL
  | pwmKnobF
  | pwmCvF
  | lfoKnob
deriving DecidableEq, Repr

/-- Nine sample codes, one per ADC channel: the latches `IN.adc_code[0..8]` (rule R32) and the
snapshot `W.S[0..8]` (rule R22), in the channel order of rule R51. -/
structure AdcCodes where
  cvL : Code
  knobL : Code
  cvF : Code
  knobF : Code
  pwmKnobL : Code
  pwmCvL : Code
  pwmKnobF : Code
  pwmCvF : Code
  lfoKnob : Code
deriving DecidableEq, Repr

/-- The names of the 13 Settings registers (rule R25). -/
inductive SettingReg where
  | cvBaseOffset
  | cvInputRange
  | knobMinL
  | knobMaxL
  | knobMinF
  | knobMaxF
  | followerThreshold
  | chorusFrequency
  | chorusMaxIntensity
  | smoothInitialGain
  | smoothSensitivity
  | knobCalOffset
  | knobCalGain
deriving DecidableEq, Repr

/-- The Settings, 13 read-only 32-bit registers in index order (rules R25 and R52). -/
structure Settings where
  cvBaseOffset : Fix
  cvInputRange : Fix
  knobMinL : Fix
  knobMaxL : Fix
  knobMinF : Fix
  knobMaxF : Fix
  followerThreshold : BitVec 32
  chorusFrequency : Fix
  chorusMaxIntensity : Fix
  smoothInitialGain : Fix
  smoothSensitivity : Fix
  knobCalOffset : Fix
  knobCalGain : Fix
deriving DecidableEq, Repr

/-- The working registers `W.*` (rule R22). -/
structure Work where
  samples : AdcCodes
  dv : Bool
  pl : Fix
  pf : Fix
  follow : Bool
  sl : Fix
  sf : Fix
  mod : Fix
  ff : Fix
  cl : Fix
  cf : Fix
  dutyL : Code
  dutyF : Code
deriving DecidableEq, Repr

/-- One oscillator's persistent state `OSC[c]` (rule R28). -/
structure Osc where
  lp1 : Fix
  lp2 : Fix
  g0 : Fix
  sens : Fix
  knobRange : Fix
  period : Period
  dacCode : DacCode
deriving DecidableEq, Repr

/-- The one LFO instance (rule R29). -/
structure Lfo where
  phase : Phase
  last : Tick
deriving DecidableEq, Repr

/-- The input latches (rule R32). -/
structure Inputs where
  adcCode : AdcCodes
  adcReady : Bool
  tickNow : Tick
  tapPending : Bool
deriving DecidableEq, Repr

/-- The output registers (rule R31) but `irq_mask`, which is the block's own bit. -/
structure Outputs where
  period0 : Period
  period1 : Period
  dac0 : DacWord
  dac1 : DacWord
  dac2 : DacWord
  dac3 : DacWord
  hsOut : Bool
  ledMode : Bool
deriving DecidableEq, Repr

/-- The events of the output event trace (20_memory.md rule R69). -/
inductive Event where
  | hardSync (enabled : Bool)
  | ledMode (mode : Bool)
  | irqMask (masked : Bool)
  | setPeriod (ch : Chan) (ticks : Period)
  | dacWrite (w0 w1 w2 w3 : DacWord)
  | timerRead (p0 p1 : Period)
deriving DecidableEq, Repr

/-- One move of an external agent between two operations: those of 20_memory.md rules R64 and R65,
and the host's reset (70_reset_and_hazards.md rules R280 and R282). -/
inductive AgentMove where
  /-- The ADC agent writes a code to one channel's latch. -/
  | adcCode (ch : AdcChannel) (c : Code)
  /-- The ADC agent sets `IN.adc_ready`. -/
  | adcReady
  /-- The tick agent advances the tick count by `d` milliseconds. -/
  | tick (d : Nat)
  /-- The button agent reports one debounced tap. -/
  | tap
  /-- A timer interrupt occurrence falls due. -/
  | timerDue
  /-- Reset is asserted, the host loads all 13 Settings, and reset is released. -/
  | reset (settings : Settings)
deriving DecidableEq, Repr

/-- The machine. `timerPending` is the interrupt source's pending bit (rule R33 (b)); `trace` is the
observation of rule R69; `gaps` is the model's own field (log entry 7): the moves the external
agents make in the gap before each coming operation, nearest gap first. -/
structure State where
  stage : StageCode
  work : Work
  settings : Settings
  oscL : Osc
  oscF : Osc
  lfo : Lfo
  hs : Bool
  irqMask : Bool
  input : Inputs
  output : Outputs
  timerPending : Bool
  trace : List Event
  gaps : List (List AgentMove)
deriving DecidableEq, Repr

/-- Why the machine stops with a fault: never. The block raises no exception and its list of causes
is empty (60_exceptions.md rule R250), so this type has no constructor. Safe. -/
inductive Fault where
deriving DecidableEq, Repr

/-- Why the machine refuses to step. -/
inductive Refusal where
  /-- An operation without a meaning; no arm of `exec` answers it. Safe: the run stops. -/
  | notModelled (mnemonic : String)
  /-- Raised by `step` when `stage` holds a reserved code 17 to 31, for which 30_encoding.md rule
  R84 tells a model to refuse the state. Safe: the run stops. -/
  | reservedStage (code : StageCode)
deriving DecidableEq, Repr

/-- Nine zero codes, the value the log names for sample registers at reset (log entries 1 and 3). -/
def AdcCodes.zero : AdcCodes := ⟨0, 0, 0, 0, 0, 0, 0, 0, 0⟩

/-- Settings of all zeros, the value the log names for State.reset (log entry 5). -/
def Settings.zero : Settings := ⟨0, 0, 0, 0, 0, 0, 0, 0, 0, 0, 0, 0, 0⟩

/-- The working registers at reset: the spec gives none a value (rule R34; log entry 1). -/
def Work.zero : Work :=
  ⟨.zero, false, 0, 0, false, 0, 0, 0, 0, 0, 0, 0, 0⟩

/-- An oscillator at reset: `lp1` and `lp2` are 0.0 (rule R34), the others have no value there (log
entry 2). -/
def Osc.zero : Osc := ⟨0, 0, 0, 0, 0, 0, 0⟩

/-- The machine right after reset (rules R34 and R281): `stage` = 16, `irq_mask`, `HS`, `LFO`, the
accumulators and the two input flags 0, the trace empty; sync disabled and the LED animation normal
(70_reset_and_hazards.md rule R282 (d), 44_hard_sync.md rule R190; log entry 15). What those
rules leave without a value holds 0 (log entries 1 to 5 and 8), and no external agent has moved (log
entry 7). -/
def State.reset : State where
  stage := 16#5
  work := .zero
  settings := .zero
  oscL := .zero
  oscF := .zero
  lfo := ⟨0, 0⟩
  hs := false
  irqMask := false
  input := ⟨.zero, false, 0, false⟩
  output := ⟨0, 0, 0, 0, 0, 0, false, false⟩
  timerPending := false
  trace := []
  gaps := []

end Sys2Proof.Machine
end

