-- ==== Sys2Proof/Machine/Operands.lean ====
section
/-! DEFINITION. The operand forms. Every operand is a whole word of a port space at a static index
(spec/20_memory.md rules R50, R58 and R71; 30_encoding.md rule R83): the index maps of the ADC and
SETTINGS spaces, the per-oscillator views, and the packing of a DAC word. -/

namespace Sys2Proof.Machine

/-- The index of an ADC channel (rule R51). -/
def AdcChannel.index : AdcChannel → Nat
  | .cvL => 0
  | .knobL => 1
  | .cvF => 2
  | .knobF => 3
  | .pwmKnobL => 4
  | .pwmCvL => 5
  | .pwmKnobF => 6
  | .pwmCvF => 7
  | .lfoKnob => 8

/-- The ADC channel at an index; there are nine (rule R51). -/
def AdcChannel.ofIndex : Nat → Option AdcChannel
  | 0 => some .cvL
  | 1 => some .knobL
  | 2 => some .cvF
  | 3 => some .knobF
  | 4 => some .pwmKnobL
  | 5 => some .pwmCvL
  | 6 => some .pwmKnobF
  | 7 => some .pwmCvF
  | 8 => some .lfoKnob
  | _ => none

/-- The code one channel holds: `S[i]` or `MemRead(ADC, i, 12)` (rules R22 and R71). -/
def AdcCodes.get (a : AdcCodes) : AdcChannel → Code
  | .cvL => a.cvL
  | .knobL => a.knobL
  | .cvF => a.cvF
  | .knobF => a.knobF
  | .pwmKnobL => a.pwmKnobL
  | .pwmCvL => a.pwmCvL
  | .pwmKnobF => a.pwmKnobF
  | .pwmCvF => a.pwmCvF
  | .lfoKnob => a.lfoKnob

/-- The codes with one channel's replaced. -/
def AdcCodes.put (a : AdcCodes) (ch : AdcChannel) (c : Code) : AdcCodes :=
  match ch with
  | .cvL => { a with cvL := c }
  | .knobL => { a with knobL := c }
  | .cvF => { a with cvF := c }
  | .knobF => { a with knobF := c }
  | .pwmKnobL => { a with pwmKnobL := c }
  | .pwmCvL => { a with pwmCvL := c }
  | .pwmKnobF => { a with pwmKnobF := c }
  | .pwmCvF => { a with pwmCvF := c }
  | .lfoKnob => { a with lfoKnob := c }

/-- The index of a Settings register (rules R25 and R52). -/
def SettingReg.index : SettingReg → Nat
  | .cvBaseOffset => 0
  | .cvInputRange => 1
  | .knobMinL => 2
  | .knobMaxL => 3
  | .knobMinF => 4
  | .knobMaxF => 5
  | .followerThreshold => 6
  | .chorusFrequency => 7
  | .chorusMaxIntensity => 8
  | .smoothInitialGain => 9
  | .smoothSensitivity => 10
  | .knobCalOffset => 11
  | .knobCalGain => 12

/-- The Settings register at an index; indices 13 and above do not exist (rule R52). -/
def SettingReg.ofIndex : Nat → Option SettingReg
  | 0 => some .cvBaseOffset
  | 1 => some .cvInputRange
  | 2 => some .knobMinL
  | 3 => some .knobMaxL
  | 4 => some .knobMinF
  | 5 => some .knobMaxF
  | 6 => some .followerThreshold
  | 7 => some .chorusFrequency
  | 8 => some .chorusMaxIntensity
  | 9 => some .smoothInitialGain
  | 10 => some .smoothSensitivity
  | 11 => some .knobCalOffset
  | 12 => some .knobCalGain
  | _ => none

/-- `SET.NAME`: `MemRead(SETTINGS, index of NAME, 32)` (rule R71). -/
def Settings.get (t : Settings) : SettingReg → BitVec 32
  | .cvBaseOffset => t.cvBaseOffset
  | .cvInputRange => t.cvInputRange
  | .knobMinL => t.knobMinL
  | .knobMaxL => t.knobMaxL
  | .knobMinF => t.knobMinF
  | .knobMaxF => t.knobMaxF
  | .followerThreshold => t.followerThreshold
  | .chorusFrequency => t.chorusFrequency
  | .chorusMaxIntensity => t.chorusMaxIntensity
  | .smoothInitialGain => t.smoothInitialGain
  | .smoothSensitivity => t.smoothSensitivity
  | .knobCalOffset => t.knobCalOffset
  | .knobCalGain => t.knobCalGain

/-- `SET.KNOB_MIN[c]` (rule R25). -/
def Settings.knobMin (t : Settings) : Chan → Fix
  | .leader => t.get .knobMinL
  | .follower => t.get .knobMinF

/-- `SET.KNOB_MAX[c]` (rule R25). -/
def Settings.knobMax (t : Settings) : Chan → Fix
  | .leader => t.get .knobMaxL
  | .follower => t.get .knobMaxF

/-- `SET.FOLLOWER_THRESHOLD[11:0]`; bits 31:12 are ignored (rule R25). -/
def Settings.threshold (t : Settings) : Code := (t.get .followerThreshold).extractLsb' 0 12

/-- `OSC[c]` (rule R28). -/
def State.osc (s : State) : Chan → Osc
  | .leader => s.oscL
  | .follower => s.oscF

/-- A DAC word `{ref, value}`: bit 12 = `ref`, bits 11:0 = `value` (rule R55). -/
def dacWord (ref : Bool) (value : DacCode) : DacWord := BitVec.ofBool ref ++ value

end Sys2Proof.Machine
end

