-- ==== Sys2Proof/Syntax.lean ====
section
/-! DEFINITION. The block's instructions: the 17 operations of spec/30_encoding.md rule R81, and the
pseudo-operations of rule R87. -/

namespace Sys2Proof

/-- The operations, one constructor per row of spec/opcode_table.json. None has an operand or an
immediate (rules R82 and R83). -/
inductive Instr where
  | poll
  | resl
  | resf
  | smthl
  | smthf
  | lfoadv
  | lfomod
  | hsync
  | clamp
  | duty
  | lookup
  | irqoff
  | setper0
  | setper1
  | irqon
  | dacwr
  | init
deriving DecidableEq, Repr

/-- The operations in the order of their codes (rule R81). -/
def Instr.all : List Instr :=
  [.poll, .resl, .resf, .smthl, .smthf, .lfoadv, .lfomod, .hsync, .clamp, .duty, .lookup,
   .irqoff, .setper0, .setper1, .irqon, .dacwr, .init]

/-- The listing mnemonic of an operation (rule R86). -/
def Instr.mnemonic : Instr → String
  | .poll => "POLL"
  | .resl => "RESL"
  | .resf => "RESF"
  | .smthl => "SMTHL"
  | .smthf => "SMTHF"
  | .lfoadv => "LFOADV"
  | .lfomod => "LFOMOD"
  | .hsync => "HSYNC"
  | .clamp => "CLAMP"
  | .duty => "DUTY"
  | .lookup => "LOOKUP"
  | .irqoff => "IRQOFF"
  | .setper0 => "SETPER0"
  | .setper1 => "SETPER1"
  | .irqon => "IRQON"
  | .dacwr => "DACWR"
  | .init => "INIT"

/-- The pseudo-operations of rule R87. -/
inductive PseudoOp where
  | boot
  | passIdle
  | passData
  | commit
deriving DecidableEq, Repr

/-- The expansion of a pseudo-operation (rule R87). -/
def PseudoOp.expand : PseudoOp → List Instr
  | .boot => [.init]
  | .passIdle => [.poll, .hsync]
  | .passData =>
    [.poll, .resl, .resf, .smthl, .smthf, .lfoadv, .lfomod, .hsync, .clamp, .duty, .lookup,
     .irqoff, .setper0, .setper1, .irqon, .dacwr]
  | .commit => [.irqoff, .setper0, .setper1, .irqon]

end Sys2Proof
end

