-- ==== Sys2Proof/Machine/Flags.lean ====
section
/-! DEFINITION. The flags. There are no arithmetic condition codes; six one-bit elements steer
operations (spec/10_state.md rule R24). -/

namespace Sys2Proof.Machine

/-- The six one-bit state elements of rule R24. -/
inductive Flag where
  | adcReady
  | tapPending
  | dv
  | follow
  | hs
  | irqMask
deriving DecidableEq, Repr

/-- The value a flag holds (rule R24). -/
def State.flag (s : State) : Flag → Bool
  | .adcReady => s.input.adcReady
  | .tapPending => s.input.tapPending
  | .dv => s.work.dv
  | .follow => s.work.follow
  | .hs => s.hs
  | .irqMask => s.irqMask

/-- The operations that may write a flag (rule R24, columns "set by" and "cleared by"); the other
writers of `adcReady` and `tapPending` are external agents. -/
def Flag.writers : Flag → List Instr
  | .adcReady => [.poll]
  | .tapPending => [.hsync]
  | .dv => [.poll]
  | .follow => [.resf]
  | .hs => [.hsync]
  | .irqMask => [.irqoff, .irqon]

/-- Whether the inverted follower code exceeds the threshold: unsigned, strict (41_pitch_resolver.md
rule R134). -/
def overrides (ic threshold : Code) : Bool := threshold.ult ic

end Sys2Proof.Machine
end

