-- ==== Sys2Proof/Machine/Ops.lean ====
section
/-! DEFINITION. The named operations over the state: one update per piece of state, and the port
accesses of spec/20_memory.md rules R50 to R61 and R71, each port write with its event (rule R69).
There is no exception to take or to return from (60_exceptions.md rules R250, R257 and R258). -/

namespace Sys2Proof.Machine

/-- `stage <- c` (10_state.md rule R21). -/
def State.setStage (s : State) (c : StageCode) : State := { s with stage := c }

/-- Write the working registers (rule R22). -/
def State.setWork (s : State) (w : Work) : State := { s with work := w }

/-- Write `OSC[c]` (rule R28). -/
def State.setOsc (s : State) (c : Chan) (o : Osc) : State :=
  match c with
  | .leader => { s with oscL := o }
  | .follower => { s with oscF := o }

/-- Write `LFO` (rule R29). -/
def State.setLfo (s : State) (l : Lfo) : State := { s with lfo := l }

/-- Write `HS` (rule R30). -/
def State.setHs (s : State) (b : Bool) : State := { s with hs := b }

/-- Write the input latches (rule R32). -/
def State.setInput (s : State) (x : Inputs) : State := { s with input := x }

/-- Write the output registers (rule R31). -/
def State.setOutput (s : State) (o : Outputs) : State := { s with output := o }

/-- Write the interrupt source's pending bit (rule R33 (b)). -/
def State.setTimerPending (s : State) (b : Bool) : State := { s with timerPending := b }

/-- `emit E`: append an event to the trace (20_memory.md rule R69). -/
def State.emit (s : State) (e : Event) : State := { s with trace := s.trace ++ [e] }

/-- The destructive read of `IN.adc_ready` after it was read: cleared (rule R60). -/
def State.clearAdcReady (s : State) : State := s.setInput { s.input with adcReady := false }

/-- The destructive read of `IN.tap_pending` after it was read: cleared (rule R60). -/
def State.clearTap (s : State) : State := s.setInput { s.input with tapPending := false }

/-- `irq_mask <- b ; emit IrqMask(b)` (rules R54 and R69). -/
def State.writeIrqMask (s : State) (b : Bool) : State := ({ s with irqMask := b }).emit (.irqMask b)

/-- `setHardSync(b)`: `OUT.hs_out <- b ; emit HardSync(b)` (rules R54 and R69). -/
def State.writeHsOut (s : State) (b : Bool) : State :=
  (s.setOutput { s.output with hsOut := b }).emit (.hardSync b)

/-- `OUT.led_mode <- b ; emit LedMode(b)` (rules R56 and R69). -/
def State.writeLedMode (s : State) (b : Bool) : State :=
  (s.setOutput { s.output with ledMode := b }).emit (.ledMode b)

/-- `OUT.period_reg[c] <- t`. -/
def Outputs.putPeriod (o : Outputs) (c : Chan) (t : Period) : Outputs :=
  match c with
  | .leader => { o with period0 := t }
  | .follower => { o with period1 := t }

/-- `setPeriod(c, t)`: `OUT.period_reg[c] <- t ; emit SetPeriod(c, t)` (rules R54 and R69). -/
def State.writePeriod (s : State) (c : Chan) (t : Period) : State :=
  (s.setOutput (s.output.putPeriod c t)).emit (.setPeriod c t)

/-- The four-channel DAC transaction, one step (rules R55, R61 and R69). -/
def State.writeDac (s : State) (w0 w1 w2 w3 : DacWord) : State :=
  (s.setOutput { s.output with dac0 := w0, dac1 := w1, dac2 := w2, dac3 := w3 }).emit
    (.dacWrite w0 w1 w2 w3)

/-- `lookup(v)` (rule R53). -/
def tableLookup (v : Fix) : VoiceParams := Config.lookup v

/-- Reset asserted, the Settings loaded by the host, reset released (70_reset_and_hazards.md rules
R280 to R282 and R287). What rule R34 fixes takes its value; the block's registers without a value
take those State.reset names; the peripherals release with sync disabled and the LED animation
normal, with no notification (rule R282 (d), 44_hard_sync.md rule R190; log entry 15); the other latches and
registers of the agents and peripherals, and the agents' coming moves, stay (log entry 9). -/
def State.hostReset (s : State) (t : Settings) : State :=
  { State.reset with
    settings := t
    input := { s.input with adcReady := false, tapPending := false }
    output := { s.output with hsOut := false, ledMode := false }
    timerPending := s.timerPending
    gaps := s.gaps }

/-- Store a value where the sequencer finds its next operation: in `stage` (30_encoding.md rule
R80), with nothing from an external agent before it (log entry 10). -/
def State.placeOperation (s : State) (c : StageCode) : State :=
  { s with stage := c, gaps := [] :: s.gaps }

end Sys2Proof.Machine
end

