-- ==== Sys2Proof/Machine/Agents.lean ====
section
/-! DEFINITION. The external agents (spec/10_state.md rule R20): what each move does, and the gap
before an operation in which they move (20_memory.md rules R64 and R65, 60_exceptions.md rules R253
and R254). -/

namespace Sys2Proof.Machine

/-- The timer interrupt agent: an occurrence that is pending reads the two period registers in one
step as soon as `irq_mask` = 0, and has no step while it is 1 (rules R65 and R254). -/
def serveTimer (s : State) : State :=
  if s.timerPending && !s.irqMask then
    (s.emit (.timerRead s.output.period0 s.output.period1)).setTimerPending false
  else s

/-- What one move writes (rule R64), before a pending timer read is served. Occurrences that fall
due while one is pending collapse into it (rule R254). -/
def moveEffect (s : State) : AgentMove → State
  | .adcCode ch c => s.setInput { s.input with adcCode := s.input.adcCode.put ch c }
  | .adcReady => s.setInput { s.input with adcReady := true }
  | .tick d => s.setInput { s.input with tickNow := s.input.tickNow + BitVec.ofNat 32 d }
  | .tap => s.setInput { s.input with tapPending := true }
  | .timerDue => s.setTimerPending true
  | .reset t => s.hostReset t

/-- One move of an external agent. -/
def applyMove (s : State) (m : AgentMove) : State := serveTimer (moveEffect s m)

/-- The agents' moves of one gap, in order, a pending timer read first. -/
def applyMoves (s : State) (ms : List AgentMove) : State := ms.foldl applyMove (serveTimer s)

/-- The gap before the next operation: its moves are taken from `gaps` and made (rule R64). -/
def runGap (s : State) : State := applyMoves { s with gaps := s.gaps.tail } (s.gaps.headD [])

end Sys2Proof.Machine
end

