-- ==== Sys2Proof/WellFormed.lean ====
section
/-! DEFINITION. Well-formedness. An operation has no operand (spec/30_encoding.md rules R82 and R83),
so the one thing that can be ill formed is a stage value: 0 to 16 are legal, 17 to 31 reserved
(10_state.md rule R21, 30_encoding.md rule R84). -/

namespace Sys2Proof

/-- A stage value that selects an operation (rule R21). -/
def legalStage (c : StageCode) : Bool := decide (c.toNat ≤ 16)

/-- Every term of `Instr` is well formed: there is no operand to check. -/
def Instr.wellFormed (i : Instr) : Bool := Instr.all.contains i

end Sys2Proof
end

