-- ==== Sys2Proof/Decode.lean ====
section
/-! DEFINITION. Decoding is the selection of an operation by the value of `stage`
(spec/30_encoding.md rule R80); the table is rule R81. The encoder is written from the same table. -/

namespace Sys2Proof

/-- Why a stage value selects no operation: it is one of the reserved codes 17 to 31 (rule R84). -/
inductive DecodeError where
  | reservedCode (code : StageCode)
deriving DecidableEq, Repr

/-- The operation a stage value selects (rule R81); total, reserved codes rejected by name. -/
def decode (c : StageCode) : Except DecodeError Instr :=
  match c.toNat with
  | 0 => .ok .poll
  | 1 => .ok .resl
  | 2 => .ok .resf
  | 3 => .ok .smthl
  | 4 => .ok .smthf
  | 5 => .ok .lfoadv
  | 6 => .ok .lfomod
  | 7 => .ok .hsync
  | 8 => .ok .clamp
  | 9 => .ok .duty
  | 10 => .ok .lookup
  | 11 => .ok .irqoff
  | 12 => .ok .setper0
  | 13 => .ok .setper1
  | 14 => .ok .irqon
  | 15 => .ok .dacwr
  | 16 => .ok .init
  | _ => .error (.reservedCode c)

/-- The stage value of an operation (rule R81, column "code (binary)"). -/
def encode : Instr → StageCode
  | .poll => 0b00000#5
  | .resl => 0b00001#5
  | .resf => 0b00010#5
  | .smthl => 0b00011#5
  | .smthf => 0b00100#5
  | .lfoadv => 0b00101#5
  | .lfomod => 0b00110#5
  | .hsync => 0b00111#5
  | .clamp => 0b01000#5
  | .duty => 0b01001#5
  | .lookup => 0b01010#5
  | .irqoff => 0b01011#5
  | .setper0 => 0b01100#5
  | .setper1 => 0b01101#5
  | .irqon => 0b01110#5
  | .dacwr => 0b01111#5
  | .init => 0b10000#5

/-- The stage value held in a word of `nbits` bits: bits 4:0, the whole of format `S` (rule R80 and
the mask 0x1F of spec/opcode_table.json; log entry 11). -/
def stageOfTableWord (nbits w : Nat) : StageCode := BitVec.ofNat 5 (w % 2 ^ nbits)

/-- The operation the decoder reads from a table word; none where it rejects the code. -/
def decodeTableWord (nbits w : Nat) : Option Instr := (decode (stageOfTableWord nbits w)).toOption

end Sys2Proof
end

