-- ==== Sys2Proof/Machine/Chorus.lean ====
section
/-! DEFINITION. The chorus LFO: LFOADV and LFOMOD (spec/43_lfo.md). -/

namespace Sys2Proof.Machine

/-- `lfo_k` (rule R171): the phase increment per tick, for a frequency. -/
def lfoK (frequency : Fix) : Fix := fxDiv frequency fxThousand

/-- The phase after `elapsed` ticks (rule R172): the exact product, then modulo one cycle. -/
def advancePhase (k : Fix) (p : Phase) (elapsed : Tick) : Phase :=
  BitVec.ofInt 16 (p.toNat + k.toInt * elapsed.toNat)

/-- The LFO advanced to tick `now` (rule R172); unwritten when no tick has elapsed. -/
def lfoAdvance (k : Fix) (l : Lfo) (now : Tick) : Lfo :=
  let elapsed := now - l.last
  if elapsed.toNat > 0 then { phase := advancePhase k l.phase elapsed, last := now } else l

/-- LFOADV (rule R172). -/
def execLfoadv (s : State) : Host.Outcome State Fault Refusal :=
  .next ((s.setLfo
    (lfoAdvance (lfoK (s.settings.get .chorusFrequency)) s.lfo s.input.tickNow)).setStage 6#5)

/-- `tri` (rule R175): unipolar, 0.0 at phase 0, 1.0 at half a cycle. -/
def tri (p : Phase) : Fix :=
  if p.toNat < 0x8000 then BitVec.ofNat 32 (2 * p.toNat)
  else BitVec.ofNat 32 (2 * (0x10000 - p.toNat))

/-- `nlfo` (rule R177): the normalised LFO knob. -/
def nlfo (s : State) : Fix := norm (inv (s.work.samples.get .lfoKnob))

/-- The modulation voltage of rule R176: (intensity × knob) × triangle. -/
def modulation (s : State) : Fix :=
  let depth := fxMul (s.settings.get .chorusMaxIntensity) (nlfo s)
  fxMul depth (tri s.lfo.phase)

/-- LFOMOD (rule R176). -/
def execLfomod (s : State) : Host.Outcome State Fault Refusal :=
  .next ((s.setWork
    { s.work with mod := modulation s, ff := fxAdd s.work.sf (modulation s) }).setStage 7#5)

end Sys2Proof.Machine
end

