-- ==== Sys2Proof/Machine/Commit.lean ====
section
/-! DEFINITION. The output commit: CLAMP, DUTY, LOOKUP, IRQOFF, SETPER0, SETPER1, IRQON and DACWR
(spec/45_output_commit.md). -/

namespace Sys2Proof.Machine

/-- A pitch CV limited to [0.0, 7.0] (rule R200). -/
def pitchClamp (v : Fix) : Fix := fxClamp v fxZero pitchHi

/-- CLAMP (rule R200). -/
def execClamp (s : State) : Host.Outcome State Fault Refusal :=
  .next ((s.setWork
    { s.work with cl := pitchClamp s.work.sl, cf := pitchClamp s.work.ff }).setStage 9#5)

/-- `duty` (rule R201): the sum in 13 bits, then limited to `ADC_MAX`. -/
def dutyCode (k v : Code) : Code :=
  let sum : BitVec 13 := (inv k).setWidth 13 + (inv v).setWidth 13
  if sum.toNat > adcMax.toNat then adcMax else sum.setWidth 12

/-- DUTY (rule R202). -/
def execDuty (s : State) : Host.Outcome State Fault Refusal :=
  .next ((s.setWork { s.work with
    dutyL := dutyCode (s.work.samples.get .pwmKnobL) (s.work.samples.get .pwmCvL)
    dutyF := dutyCode (s.work.samples.get .pwmKnobF) (s.work.samples.get .pwmCvF) }).setStage 10#5)

/-- An oscillator with the voice parameters of a voltage stored (rule R203). -/
def storeVoice (o : Osc) (p : VoiceParams) : Osc :=
  { o with period := p.period, dacCode := p.dacCode }

/-- LOOKUP (rule R203), leader first. -/
def execLookup (s : State) : Host.Outcome State Fault Refusal :=
  .next (((s.setOsc .leader (storeVoice (s.osc .leader) (tableLookup s.work.cl))).setOsc .follower
    (storeVoice (s.osc .follower) (tableLookup s.work.cf))).setStage 11#5)

/-- IRQOFF (rule R204). -/
def execIrqoff (s : State) : Host.Outcome State Fault Refusal :=
  .next ((s.writeIrqMask true).setStage 12#5)

/-- SETPER0 (rule R205). -/
def execSetper0 (s : State) : Host.Outcome State Fault Refusal :=
  .next ((s.writePeriod .leader (s.osc .leader).period).setStage 13#5)

/-- SETPER1 (rule R206). -/
def execSetper1 (s : State) : Host.Outcome State Fault Refusal :=
  .next ((s.writePeriod .follower (s.osc .follower).period).setStage 14#5)

/-- IRQON (rule R207). -/
def execIrqon (s : State) : Host.Outcome State Fault Refusal :=
  .next ((s.writeIrqMask false).setStage 15#5)

/-- DACWR (rule R208): reference flag set on the two pitch codes only (20_memory.md rule R55). -/
def execDacwr (s : State) : Host.Outcome State Fault Refusal :=
  .next ((s.writeDac (dacWord true (s.osc .leader).dacCode) (dacWord false s.work.dutyL)
    (dacWord true (s.osc .follower).dacCode) (dacWord false s.work.dutyF)).setStage 0#5)

end Sys2Proof.Machine
end

