-- ==== Sys2Proof/Machine/HardSync.lean ====
section
/-! DEFINITION. The hard-sync toggle: HSYNC (spec/44_hard_sync.md). -/

namespace Sys2Proof.Machine

/-- The toggle on a consumed tap (rule R192): the latch cleared, `HS` toggled, then the two
notifications in the order of rule R194, both with the new value. -/
def consumeTap (s : State) : State :=
  let b := !s.hs
  (((s.clearTap).setHs b).writeHsOut b).writeLedMode b

/-- HSYNC (rule R192). -/
def execHsync (s : State) : Host.Outcome State Fault Refusal :=
  let t := if s.input.tapPending then consumeTap s else s
  .next (t.setStage (if s.work.dv then 8#5 else 0#5))

end Sys2Proof.Machine
end

