-- ==== Sys2Proof/Machine/Resolver.lean ====
section
/-! DEFINITION. ADC error correction and the pitch-CV resolver: RESL and RESF
(spec/41_pitch_resolver.md). -/

namespace Sys2Proof.Machine

/-- `adc_correct` (rule R130): offset removed, then gain applied. -/
def adcCorrect (v offset gain : Fix) : Fix := fxMul (fxSub v offset) gain

/-- `cv_base` of an inverted CV code (rule R131). -/
def cvBase (t : Settings) (c : Code) : Fix :=
  fxAdd (t.get .cvBaseOffset) (fxMul (t.get .cvInputRange) (norm c))

/-- `knob_fine` of an inverted knob code (rule R132), with the channel's knob range and minimum. -/
def knobFine (t : Settings) (knobRange : Fix) (ch : Chan) (c : Code) : Fix :=
  let corr := adcCorrect (fxFromInt c.toNat) (t.get .knobCalOffset) (t.get .knobCalGain)
  let n := fxDiv corr fxAdcMax
  fxAdd (t.knobMin ch) (fxMul knobRange n)

/-- The leader pitch CV of rule R133. -/
def leaderPitch (s : State) : Fix :=
  let base := cvBase s.settings (inv (s.work.samples.get .cvL))
  let fine := knobFine s.settings (s.osc .leader).knobRange .leader (inv (s.work.samples.get .knobL))
  fxAdd base fine

/-- RESL (rule R133). -/
def execResl (s : State) : Host.Outcome State Fault Refusal :=
  .next ((s.setWork { s.work with pl := leaderPitch s }).setStage 2#5)

/-- Whether the follower is in override this pass (rule R134). -/
def followerOverrides (s : State) : Bool :=
  overrides (inv (s.work.samples.get .cvF)) s.settings.threshold

/-- The follower's base pitch voltage: its own CV in override, else the leader pitch CV of this pass
(rule R134). -/
def followerBase (s : State) : Fix :=
  if followerOverrides s then cvBase s.settings (inv (s.work.samples.get .cvF)) else s.work.pl

/-- The follower pitch CV of rule R134. -/
def followerPitch (s : State) : Fix :=
  let fine :=
    knobFine s.settings (s.osc .follower).knobRange .follower (inv (s.work.samples.get .knobF))
  fxAdd (followerBase s) fine

/-- RESF (rule R134). -/
def execResf (s : State) : Host.Outcome State Fault Refusal :=
  .next ((s.setWork
    { s.work with pf := followerPitch s, follow := !followerOverrides s }).setStage 3#5)

end Sys2Proof.Machine
end

