-- ==== Sys2Proof/Machine/Scheduler.lean ====
section
/-! DEFINITION. The cycle scheduler's own operations: POLL and INIT (spec/46_scheduler.md). -/

namespace Sys2Proof.Machine

/-- POLL (rule R231): consume `adc_ready`; if it was set, snapshot the nine codes. -/
def execPoll (s : State) : Host.Outcome State Fault Refusal :=
  if s.input.adcReady then
    .next (((s.clearAdcReady).setWork
      { s.work with samples := s.input.adcCode, dv := true }).setStage 1#5)
  else
    .next ((s.setWork { s.work with dv := false }).setStage 7#5)

/-- An oscillator as INIT leaves it (rule R233): knob range derived, filter parameters copied,
accumulators cleared. -/
def initOsc (t : Settings) (c : Chan) (o : Osc) : Osc :=
  { o with
    knobRange := fxSub (t.knobMax c) (t.knobMin c)
    g0 := t.get .smoothInitialGain
    sens := t.get .smoothSensitivity
    lp1 := fxZero
    lp2 := fxZero }

/-- INIT (rule R233), leader first. -/
def execInit (s : State) : Host.Outcome State Fault Refusal :=
  .next (((s.setOsc .leader (initOsc s.settings .leader (s.osc .leader))).setOsc .follower
    (initOsc s.settings .follower (s.osc .follower))).setStage 0#5)

end Sys2Proof.Machine
end

