-- ==== Sys2Proof/Machine/Smoothing.lean ====
section
/-! DEFINITION. The adaptive smoothing filter: SMTHL and SMTHF (spec/42_smoothing.md). -/

namespace Sys2Proof.Machine

/-- The adaptive gain `g` of rule R151, from the accumulators before the step. -/
def smoothGain (o : Osc) : Fix :=
  fxMin (fxAdd o.g0 (fxMul o.sens (fxAbs (fxSub o.lp1 o.lp2)))) fxOne

/-- One stage of the filter moves toward a target by the gain times the distance (rule R151). -/
def stageToward (g target lp : Fix) : Fix := fxAdd lp (fxMul g (fxSub target lp))

/-- `smooth_step` (rule R151): the filter instance after the step; its output is the new `lp2`. The
second stage moves toward the NEW `lp1`, with the same gain. -/
def smoothStep (o : Osc) (x : Fix) : Osc :=
  let g := smoothGain o
  let lp1 := stageToward g x o.lp1
  let lp2 := stageToward g lp1 o.lp2
  { o with lp1 := lp1, lp2 := lp2 }

/-- SMTHL (rule R152). -/
def execSmthl (s : State) : Host.Outcome State Fault Refusal :=
  let o := smoothStep (s.osc .leader) s.work.pl
  .next (((s.setOsc .leader o).setWork { s.work with sl := o.lp2 }).setStage 4#5)

/-- SMTHF (rule R153). -/
def execSmthf (s : State) : Host.Outcome State Fault Refusal :=
  let o := smoothStep (s.osc .follower) s.work.pf
  .next (((s.setOsc .follower o).setWork { s.work with sf := o.lp2 }).setStage 5#5)

end Sys2Proof.Machine
end

