-- ==== Sys2Proof/Machine/Dispatch.lean ====
section
/-! DEFINITION. One arm per operation (spec/30_encoding.md rule R81). -/

namespace Sys2Proof.Machine

def exec (i : Instr) (s : State) : Host.Outcome State Fault Refusal :=
  match i with
  | .poll => Sys2Proof.Machine.execPoll s
  | .resl => Sys2Proof.Machine.execResl s
  | .resf => Sys2Proof.Machine.execResf s
  | .smthl => Sys2Proof.Machine.execSmthl s
  | .smthf => Sys2Proof.Machine.execSmthf s
  | .lfoadv => Sys2Proof.Machine.execLfoadv s
  | .lfomod => Sys2Proof.Machine.execLfomod s
  | .hsync => Sys2Proof.Machine.execHsync s
  | .clamp => Sys2Proof.Machine.execClamp s
  | .duty => Sys2Proof.Machine.execDuty s
  | .lookup => Sys2Proof.Machine.execLookup s
  | .irqoff => Sys2Proof.Machine.execIrqoff s
  | .setper0 => Sys2Proof.Machine.execSetper0 s
  | .setper1 => Sys2Proof.Machine.execSetper1 s
  | .irqon => Sys2Proof.Machine.execIrqon s
  | .dacwr => Sys2Proof.Machine.execDacwr s
  | .init => Sys2Proof.Machine.execInit s

end Sys2Proof.Machine
end

