-- ==== Sys2Proof/Machine/Fetch.lean ====
section
/-! DEFINITION. The block has no fetch: the operation is the one `stage` selects
(spec/10_state.md rule R21, 30_encoding.md rule R80). -/

namespace Sys2Proof.Machine

/-- The operation `stage` selects, run; a reserved code is refused by name (30_encoding.md rule
R84). -/
def runStage (s : State) : Host.Outcome State Fault Refusal :=
  match decode s.stage with
  | .ok i => exec i s
  | .error (.reservedCode c) => .refused (.reservedStage c)

end Sys2Proof.Machine
end

