-- ==== Sys2Proof/Machine/Step.lean ====
section
/-! DEFINITION. One step: the external agents' gap, then the one operation `stage` selects
(spec/10_state.md rule R21, 20_memory.md rules R63 and R64). -/

namespace Sys2Proof.Machine

/-- One step of the machine. -/
def step (s : State) : Host.Outcome State Fault Refusal := runStage (runGap s)

/-- The state with a table word placed where the next step finds its operation (log entry 10). -/
def State.withFetchWord (s : State) (nbits w : Nat) : State :=
  s.placeOperation (stageOfTableWord nbits w)

end Sys2Proof.Machine
end

