-- ==== Sys2Proof/Machine/Reference.lean ====
section
/-! DEFINITION. The block over unbounded integers: the big-step pass of spec/46_scheduler.md rule
R236 and the rule functions it calls, as the reference computation of 95_test_vectors.md section 9
writes them. Nothing here is used by `step`; the statements compare the machine with it. -/

namespace Sys2Proof.Machine

/-- `sat32` as a raw integer (40_fixed_point.md rule R100). -/
def refSat (x : Int) : Int := max (-2147483648) (min 2147483647 x)

/-- `fx_from_int` (rule R101). -/
def refFromInt (n : Int) : Int := refSat (n * 65536)

/-- `fx_add` (rule R103). -/
def refAdd (a b : Int) : Int := refSat (a + b)

/-- `fx_sub` (rule R104). -/
def refSub (a b : Int) : Int := refSat (a - b)

/-- `fx_mul` (rule R105). -/
def refMul (a b : Int) : Int := refSat ((a * b + 32768) / 65536)

/-- `fx_div` (rule R106). -/
def refDiv (a b : Int) : Int :=
  if b = 0 then (if 0 ≤ a then 2147483647 else -2147483648)
  else
    let p := if b < 0 then (-a, -b) else (a, b)
    refSat ((2 * p.1 * 65536 + p.2) / (2 * p.2))

/-- `fx_abs` (rule R107). -/
def refAbs (a : Int) : Int := refSat |a|

/-- `norm` of a code in 0..4095 (rule R110). -/
def refNorm (c : Int) : Int := refDiv (refFromInt c) (refFromInt 4095)

/-- `inv` (rule R111). -/
def refInv (c : Int) : Int := 4095 - c

/-- `adc_correct` (41_pitch_resolver.md rule R130). -/
def refCorrect (v offset gain : Int) : Int := refMul (refSub v offset) gain

/-- `cv_base` (rule R131). -/
def refCvBase (base range c : Int) : Int := refAdd base (refMul range (refNorm c))

/-- `knob_fine` (rule R132). -/
def refKnobFine (offset gain knobMin knobRange c : Int) : Int :=
  refAdd knobMin
    (refMul knobRange (refDiv (refCorrect (refFromInt c) offset gain) (refFromInt 4095)))

/-- The gain of `smooth_step` (42_smoothing.md rule R151). -/
def refGain (g0 sens lp1 lp2 : Int) : Int :=
  min (refAdd g0 (refMul sens (refAbs (refSub lp1 lp2)))) 65536

/-- `smooth_step` (rule R151): the two accumulators after the step. -/
def refSmooth (g0 sens lp1 lp2 x : Int) : Int × Int :=
  let g := refGain g0 sens lp1 lp2
  let lp1' := refAdd lp1 (refMul g (refSub x lp1))
  let lp2' := refAdd lp2 (refMul g (refSub lp1' lp2))
  (lp1', lp2')

/-- `tri` of a phase in 0..65535 (43_lfo.md rule R175). -/
def refTri (p : Int) : Int := if p < 32768 then 2 * p else 2 * (65536 - p)

/-- The modulation of rule R176. -/
def refModulation (maxIntensity knob phase : Int) : Int :=
  refMul (refMul maxIntensity (refNorm (refInv knob))) (refTri phase)

/-- The phase and last tick after LFOADV (rule R172). -/
def refAdvance (frequency phase last now : Int) : Int × Int :=
  let elapsed := (now - last) % 4294967296
  if 0 < elapsed then ((phase + refDiv frequency (refFromInt 1000) * elapsed) % 65536, now)
  else (phase, last)

/-- A pitch limited to [0.0, 7.0] (45_output_commit.md rule R200). -/
def refClamp (v : Int) : Int := max 0 (min v 458752)

/-- `duty` (rule R201). -/
def refDuty (k v : Int) : Int := min (refInv k + refInv v) 4095

/-- One oscillator of the reference computation. -/
structure RefOsc where
  lp1 : Int
  lp2 : Int
  g0 : Int
  sens : Int
  knobRange : Int
  period : Period
  dacCode : DacCode
deriving DecidableEq, Repr

/-- The state of the reference computation between passes: (`OSC`, `LFO`, `HS`, output registers,
trace) of rule R236. -/
structure RefBlock where
  oscL : RefOsc
  oscF : RefOsc
  phase : Int
  last : Int
  hs : Bool
  output : Outputs
  trace : List Event
deriving DecidableEq, Repr

/-- What a pass finds: the `PASS` header of 30_encoding.md rule R86. -/
structure PassHeader where
  ready : Bool
  codes : AdcCodes
  tick : Tick
  tap : Bool
deriving DecidableEq, Repr

/-- The raw integers of an oscillator. -/
def Osc.raw (o : Osc) : RefOsc :=
  ⟨o.lp1.toInt, o.lp2.toInt, o.g0.toInt, o.sens.toInt, o.knobRange.toInt, o.period, o.dacCode⟩

/-- The machine's state as the reference computation sees it. -/
def State.refBlock (s : State) : RefBlock :=
  ⟨s.oscL.raw, s.oscF.raw, s.lfo.phase.toNat, s.lfo.last.toNat, s.hs, s.output, s.trace⟩

/-- What a pass starting now finds when no external agent moves during it. -/
def State.passHeader (s : State) : PassHeader :=
  ⟨s.input.adcReady, s.input.adcCode, s.input.tickNow, s.input.tapPending⟩

/-- The reference leader pitch (rule R133). -/
def refLeaderPitch (t : Settings) (knobRange : Int) (codes : AdcCodes) : Int :=
  refAdd (refCvBase t.cvBaseOffset.toInt t.cvInputRange.toInt (refInv codes.cvL.toNat))
    (refKnobFine t.knobCalOffset.toInt t.knobCalGain.toInt t.knobMinL.toInt knobRange
      (refInv codes.knobL.toNat))

/-- Whether the follower is in follow mode (rule R134): bits 11:0 of the threshold compared. -/
def refFollows (t : Settings) (codes : AdcCodes) : Bool :=
  decide (refInv codes.cvF.toNat ≤ (t.followerThreshold.toNat % 4096 : Nat))

/-- The reference follower pitch (rule R134). -/
def refFollowerPitch (t : Settings) (knobRange pl : Int) (codes : AdcCodes) : Int :=
  refAdd
    (if refFollows t codes then pl
     else refCvBase t.cvBaseOffset.toInt t.cvInputRange.toInt (refInv codes.cvF.toNat))
    (refKnobFine t.knobCalOffset.toInt t.knobCalGain.toInt t.knobMinF.toInt knobRange
      (refInv codes.knobF.toNat))

/-- The toggle of rule R236: on a tap, `HS` and both notifications. -/
def refTap (b : RefBlock) (tap : Bool) : RefBlock :=
  if tap then
    { b with
      hs := !b.hs
      output := { b.output with hsOut := !b.hs, ledMode := !b.hs }
      trace := b.trace ++ [.hardSync (!b.hs), .ledMode (!b.hs)] }
  else b

/-- A pitch word `{1, dac_code}`: 0x1000 | dac_code (45_output_commit.md rule R208). -/
def refPitchWord (d : DacCode) : DacWord := BitVec.ofNat 13 (4096 + d.toNat)

/-- The commit of rule R236, from the final voltages and the duty codes. -/
def refCommit (b : RefBlock) (cl cf dutyL dutyF : Int) : RefBlock :=
  let vl := Config.lookup (BitVec.ofInt 32 cl)
  let vf := Config.lookup (BitVec.ofInt 32 cf)
  let w0 := refPitchWord vl.dacCode
  let w1 := BitVec.ofInt 13 dutyL
  let w2 := refPitchWord vf.dacCode
  let w3 := BitVec.ofInt 13 dutyF
  { b with
    oscL := { b.oscL with period := vl.period, dacCode := vl.dacCode }
    oscF := { b.oscF with period := vf.period, dacCode := vf.dacCode }
    output := { b.output with
      period0 := vl.period, period1 := vf.period, dac0 := w0, dac1 := w1, dac2 := w2, dac3 := w3 }
    trace := b.trace ++ [.irqMask true, .setPeriod .leader vl.period,
      .setPeriod .follower vf.period, .irqMask false, .dacWrite w0 w1 w2 w3] }

/-- The data path of a data pass, up to and without the tap. -/
def refDataPath (t : Settings) (b : RefBlock) (h : PassHeader) : RefBlock :=
  let pl := refLeaderPitch t b.oscL.knobRange h.codes
  let pf := refFollowerPitch t b.oscF.knobRange pl h.codes
  let l := refSmooth b.oscL.g0 b.oscL.sens b.oscL.lp1 b.oscL.lp2 pl
  let f := refSmooth b.oscF.g0 b.oscF.sens b.oscF.lp1 b.oscF.lp2 pf
  let lfo := refAdvance t.chorusFrequency.toInt b.phase b.last h.tick.toNat
  { b with
    oscL := { b.oscL with lp1 := l.1, lp2 := l.2 }
    oscF := { b.oscF with lp1 := f.1, lp2 := f.2 }
    phase := lfo.1
    last := lfo.2 }

/-- The big-step pass `pass(σ, ready, codes, tick, tap)` of rule R236. -/
def refPass (t : Settings) (b : RefBlock) (h : PassHeader) : RefBlock :=
  if h.ready then
    let d := refTap (refDataPath t b h) h.tap
    let ff := refAdd d.oscF.lp2
      (refModulation t.chorusMaxIntensity.toInt h.codes.lfoKnob.toNat d.phase)
    refCommit d (refClamp d.oscL.lp2) (refClamp ff)
      (refDuty h.codes.pwmKnobL.toNat h.codes.pwmCvL.toNat)
      (refDuty h.codes.pwmKnobF.toNat h.codes.pwmCvF.toNat)
  else refTap b h.tap

end Sys2Proof.Machine
end

