-- ==== Sys2Proof/Safety.lean ====
section
/-! DEFINITION. What counts as a safe run: the invariants of the whole machine that
spec/20_memory.md, 42_smoothing.md, 43_lfo.md, 44_hard_sync.md and 45_output_commit.md state over
every state of a run. -/

namespace Sys2Proof.Machine

/-- The stage holds the code of an operation (10_state.md rule R21). -/
def StageLegal (s : State) : Prop := legalStage s.stage = true

/-- The stages of the critical section: 12, 13 and 14 (45_output_commit.md rule R209). -/
def inCriticalSection (c : StageCode) : Bool := c == 12#5 || c == 13#5 || c == 14#5

/-- `irq_mask` is 1 exactly while `stage` is 12, 13 or 14 (rule R209). -/
def MaskMatchesStage (s : State) : Prop := s.irqMask = inCriticalSection s.stage

/-- What an observer of the trace knows of the two period registers. -/
structure CommitView where
  /-- The pair of values last written to the two registers. -/
  written : Period × Period
  /-- The pair of the latest completed SETPER0/SETPER1 pair, or the pair before the first. -/
  committed : Period × Period
  /-- Whether the last mask event set the mask. -/
  masked : Bool
  /-- Whether every timer read so far was unmasked and saw the committed pair. -/
  whole : Bool
deriving DecidableEq, Repr

/-- One event seen by that observer (20_memory.md rules R67 and R69). -/
def CommitView.observe (v : CommitView) : Event → CommitView
  | .irqMask b => { v with masked := b }
  | .setPeriod .leader t => { v with written := (t, v.written.2) }
  | .setPeriod .follower t => { v with written := (v.written.1, t), committed := (v.written.1, t) }
  | .timerRead p0 p1 => { v with whole := v.whole && !v.masked && ((p0, p1) == v.committed) }
  | .hardSync _ => v
  | .ledMode _ => v
  | .dacWrite _ _ _ _ => v

/-- What the observer knows after a trace, the registers holding `p` before it. -/
def commitView (p : Period × Period) (trace : List Event) : CommitView :=
  trace.foldl CommitView.observe ⟨p, p, false, true⟩

/-- The atomic-commit invariant (rule R67): for the pair the registers held before the trace began,
every timer read of the trace saw one pass's pair, the trace accounts for the registers and the
mask, and between SETPER0 and SETPER1 alone may the registers differ from the committed pair. -/
def AtomicCommit (s : State) : Prop :=
  ∃ p, (commitView p s.trace).whole = true ∧
    (commitView p s.trace).masked = s.irqMask ∧
    (commitView p s.trace).written = (s.output.period0, s.output.period1) ∧
    (s.stage ≠ 13#5 → (commitView p s.trace).committed = (s.output.period0, s.output.period1)) ∧
    MaskMatchesStage s

/-- Whether an event is a hard-sync notification. -/
def Event.isHardSync : Event → Bool
  | .hardSync _ => true
  | _ => false

/-- Whether an event is an LED mode notification. -/
def Event.isLedMode : Event → Bool
  | .ledMode _ => true
  | _ => false

/-- The number of taps consumed since reset: one hard-sync notification each (44_hard_sync.md rule
R193). -/
def consumedTaps (trace : List Event) : Nat := (trace.filter Event.isHardSync).length

/-- `HS` is the parity of the consumed taps, and the two notification ports, once written, equal
`HS` (rule R193). -/
def SyncFollowsTaps (s : State) : Prop :=
  s.hs = decide (consumedTaps s.trace % 2 = 1) ∧
  ((s.trace.any Event.isHardSync) = true → s.output.hsOut = s.hs) ∧
  ((s.trace.any Event.isLedMode) = true → s.output.ledMode = s.hs)

/-- The phase depends on the last advancing tick alone (43_lfo.md rule R174). -/
def PhaseTracksTick (s : State) : Prop :=
  (s.lfo.phase.toNat : Int) =
    ((lfoK s.settings.chorusFrequency).toInt * s.lfo.last.toNat) % 65536

/-- After INIT both oscillators hold the parameters derived from the Settings
(42_smoothing.md rule R150, 46_scheduler.md rule R233). -/
def ParametersFromSettings (s : State) : Prop :=
  s.stage ≠ 16#5 → ∀ c : Chan,
    (s.osc c).g0 = s.settings.smoothInitialGain ∧
    (s.osc c).sens = s.settings.smoothSensitivity ∧
    (s.osc c).knobRange = fxSub (s.settings.knobMax c) (s.settings.knobMin c)

/-- A voltage the table is defined on: [0.0, 7.0] (20_memory.md rule R53). -/
def inTableRange (v : Fix) : Prop := 0 ≤ v.toInt ∧ v.toInt ≤ 458752

/-- From CLAMP until LOOKUP both clamped voltages are in the table's range (45_output_commit.md
rule R210). -/
def LookupArgumentsInRange (s : State) : Prop :=
  (s.stage = 9#5 ∨ s.stage = 10#5) → inTableRange s.work.cl ∧ inTableRange s.work.cf

/-- Everything a reachable state satisfies. -/
structure Invariant (s : State) : Prop where
  legal : StageLegal s
  commit : AtomicCommit s
  sync : SyncFollowsTaps s
  phase : PhaseTracksTick s
  parameters : ParametersFromSettings s
  range : LookupArgumentsInRange s

/-- A move that is not the host's reset. -/
def AgentMove.isReset : AgentMove → Bool
  | .reset _ => true
  | _ => false

/-- No reset is asserted in the gap before the next operation. -/
def noResetNext (s : State) : Prop := ∀ m ∈ s.gaps.headD [], m.isReset = false

/-- The milliseconds the tick agent adds in a list of moves (20_memory.md rule R64). -/
def ticksIn : List AgentMove → Nat
  | [] => 0
  | .tick d :: ms => d + ticksIn ms
  | .adcCode _ _ :: ms | .adcReady :: ms | .tap :: ms | .timerDue :: ms | .reset _ :: ms => ticksIn ms

/-- The code a channel's latch holds after a list of moves, `c` before it: the last one the ADC agent
wrote to that channel (20_memory.md rule R64). -/
def codeAfter (ch : AdcChannel) (c : Code) : List AgentMove → Code
  | [] => c
  | .adcCode ch' c' :: ms => codeAfter ch (if ch' = ch then c' else c) ms
  | .adcReady :: ms | .tick _ :: ms | .tap :: ms | .timerDue :: ms | .reset _ :: ms => codeAfter ch c ms

/-- Between passes or in an idle one, with no fresh data now, and neither fresh data nor a reset among
the coming moves (46_scheduler.md rule R234): every pass from here on is idle. -/
def AwaitsData (s : State) : Prop :=
  (s.stage = 0#5 ∨ s.stage = 7#5 ∧ s.work.dv = false) ∧ s.input.adcReady = false ∧
    ∀ g ∈ s.gaps, ∀ m ∈ g, m ≠ .adcReady ∧ m.isReset = false

/-- `t` differs from `s` in the tap machinery, the input latches, the pending bit, the coming moves,
`stage` and `W.DV` only, and its trace gains hard-sync and LED notifications and reads of the
committed periods only (46_scheduler.md rule R234, 45_output_commit.md rule R209). -/
def OnlyTapChanged (s t : State) : Prop :=
  t.oscL = s.oscL ∧ t.oscF = s.oscF ∧ t.lfo = s.lfo ∧ t.irqMask = s.irqMask ∧
    t.settings = s.settings ∧ t.work = { s.work with dv := t.work.dv } ∧
    t.output = { s.output with hsOut := t.output.hsOut, ledMode := t.output.ledMode } ∧
    ∃ added : List Event, t.trace = s.trace ++ added ∧
      ∀ e ∈ added, e.isHardSync = true ∨ e.isLedMode = true ∨
        e = .timerRead s.output.period0 s.output.period1

/-- The Settings meet the one constraint the source states (10_state.md rule R26): the host's
responsibility, not checked by the block. -/
def Settings.valid (t : Settings) : Bool :=
  decide (t.knobMinL.toInt ≤ t.knobMaxL.toInt) && decide (t.knobMinF.toInt ≤ t.knobMaxF.toInt)

/-- The ranges rule R26 recommends. -/
def Settings.recommended (t : Settings) : Bool :=
  t.valid && decide (0 < t.smoothInitialGain.toInt) && decide (t.smoothInitialGain.toInt ≤ 65536)
    && decide (0 ≤ t.smoothSensitivity.toInt) && decide (0 ≤ t.chorusFrequency.toInt)
    && decide (0 ≤ t.chorusMaxIntensity.toInt) && decide (0 ≤ t.cvInputRange.toInt)

end Sys2Proof.Machine
end

