-- ==== Sys2Proof/Certificates/Slice0/Obligations.lean ====
section
/-! DEFINITION. The statements about the machine, one per `Obligations.<Name>`; each docstring names
the rules of spec/ it formalises. Witnesses of their hypotheses stand in Tests/Slice0.lean. -/

open Sys2Proof Sys2Proof.Machine

/-! ### Encoding and stepping -/

/-- One step is the external agents' gap and then the operation `stage` selects (10_state.md rule
R21, 20_memory.md rules R63 and R64). A gap without a reset leaves `stage` alone, and with no coming
move and no pending timer read it changes nothing. The gap as data is the model's (log entry 7). -/
def Obligations.StepRunsTheDecodedOperation : Prop :=
  ∀ (s : State) (i : Instr), decode (runGap s).stage = .ok i →
    step s = exec i (runGap s) ∧
    (noResetNext s → (runGap s).stage = s.stage) ∧
    (s.gaps = [] → s.timerPending = false → step s = exec i s)

/-- An operation placed by `withFetchWord` is the one the next step runs, from the same state (30
rule R80; log entry 10 says how it is placed). -/
def Obligations.PlacedOperationRunsNext : Prop :=
  ∀ (s : State) (nbits w : Nat) (i : Instr), decodeTableWord nbits w = some i →
    s.timerPending = false →
    step (s.withFetchWord nbits w) = exec i { s with stage := encode i }

/-- The decoder is the operation table (30_encoding.md rule R81): codes 0 to 16 in order, and
nothing else. -/
def Obligations.DecoderIsTheOperationTable : Prop :=
  (List.range 17).map (fun n => (decode (BitVec.ofNat 5 n)).toOption) = Instr.all.map some ∧
  (∀ (c : StageCode) (i : Instr), decode c = .ok i ↔ c = encode i) ∧
  (∀ c : StageCode, 17 ≤ c.toNat → decode c = .error (.reservedCode c))

/-- Words written out from the column "code (binary)" of rule R81, one per unit. -/
def Obligations.WrittenOutWordsDecode : Prop :=
  decodeTableWord 8 0b00000000 = some .poll ∧ decodeTableWord 8 0b00000010 = some .resf ∧
  decodeTableWord 8 0b00000011 = some .smthl ∧ decodeTableWord 8 0b00000101 = some .lfoadv ∧
  decodeTableWord 8 0b00000111 = some .hsync ∧ decodeTableWord 8 0b00001100 = some .setper0 ∧
  decodeTableWord 8 0b00010000 = some .init ∧ decodeTableWord 8 0b00010001 = none

/-- Reserved codes are refused by name, no operation writes one, and reset sets 16 (30_encoding.md
rule R84). -/
def Obligations.ReservedStageIsRefused : Prop :=
  (∀ s : State, 17 ≤ (runGap s).stage.toNat →
    step s = .refused (.reservedStage (runGap s).stage)) ∧
  (∀ (i : Instr) (s t : State), exec i s = .next t → t.stage.toNat ≤ 16) ∧
  State.reset.stage = 16#5

/-- The stage succession table, all 19 rows (46_scheduler.md rule R232); every operation goes on. -/
def Obligations.StageSuccession : Prop :=
  (∀ p ∈ [(Instr.init, 0#5), (.resl, 2#5), (.resf, 3#5), (.smthl, 4#5), (.smthf, 5#5),
      (.lfoadv, 6#5), (.lfomod, 7#5), (.clamp, 9#5), (.duty, 10#5), (.lookup, 11#5),
      (.irqoff, 12#5), (.setper0, 13#5), (.setper1, 14#5), (.irqon, 15#5), (.dacwr, 0#5)],
    ∀ s : State, ∃ t, exec p.1 s = .next t ∧ t.stage = p.2) ∧
  (∀ s : State, ∃ t, exec .poll s = .next t ∧
    t.stage = if s.input.adcReady then 1#5 else 7#5) ∧
  (∀ s : State, ∃ t, exec .hsync s = .next t ∧ t.stage = if s.work.dv then 8#5 else 0#5)

/-- The index maps of the ADC and SETTINGS spaces (20_memory.md rules R51 and R52, 10_state.md rule
R25): the numbering of the rules' tables, each index naming one channel or register, nine and
thirteen of them, and each name reading its own latch or register. -/
def Obligations.PortIndexMaps : Prop :=
  (List.range 9).map AdcChannel.ofIndex =
    [some .cvL, some .knobL, some .cvF, some .knobF, some .pwmKnobL, some .pwmCvL, some .pwmKnobF,
      some .pwmCvF, some .lfoKnob] ∧
  (List.range 13).map SettingReg.ofIndex =
    [some .cvBaseOffset, some .cvInputRange, some .knobMinL, some .knobMaxL, some .knobMinF,
      some .knobMaxF, some .followerThreshold, some .chorusFrequency, some .chorusMaxIntensity,
      some .smoothInitialGain, some .smoothSensitivity, some .knobCalOffset, some .knobCalGain] ∧
  (∀ a : AdcCodes, (List.range 9).map (fun n => (AdcChannel.ofIndex n).map a.get) =
    [a.cvL, a.knobL, a.cvF, a.knobF, a.pwmKnobL, a.pwmCvL, a.pwmKnobF, a.pwmCvF,
      a.lfoKnob].map some) ∧
  (∀ t : Settings, (List.range 13).map (fun n => (SettingReg.ofIndex n).map t.get) =
    [t.cvBaseOffset, t.cvInputRange, t.knobMinL, t.knobMaxL, t.knobMinF, t.knobMaxF,
      t.followerThreshold, t.chorusFrequency, t.chorusMaxIntensity, t.smoothInitialGain,
      t.smoothSensitivity, t.knobCalOffset, t.knobCalGain].map some) ∧
  (∀ (n : Nat) (c : AdcChannel), AdcChannel.ofIndex n = some c ↔ n = c.index) ∧
  (∀ n : Nat, AdcChannel.ofIndex n = none ↔ 9 ≤ n) ∧
  (∀ (n : Nat) (r : SettingReg), SettingReg.ofIndex n = some r ↔ n = r.index) ∧
  (∀ n : Nat, SettingReg.ofIndex n = none ↔ 13 ≤ n)

/-! ### Reset -/

/-- What reset leaves where rules R34 and R281 give a value. -/
def Obligations.ResetLeavesTheStatedValues : Prop :=
  State.reset.stage = 16#5 ∧ State.reset.irqMask = false ∧ State.reset.hs = false ∧
  State.reset.lfo = ⟨0, 0⟩ ∧
  (∀ c : Chan, (State.reset.osc c).lp1 = fxZero ∧ (State.reset.osc c).lp2 = fxZero) ∧
  State.reset.input.adcReady = false ∧ State.reset.input.tapPending = false ∧
  State.reset.trace = []

/-- A reset during a run starts a new run with the Settings the host loaded (70_reset_and_hazards.md
rules R280, R281, R282 and R287): the step after it runs INIT, with sync disabled and the LED
animation normal (rule R282 (d), 44_hard_sync.md rule R190; log entry 15). That the
latches and the other output registers stay as they were is the model's choice (log entry 9). -/
def Obligations.ResetMoveStartsANewRun : Prop :=
  ∀ (s : State) (t : Settings) (g : List (List AgentMove)),
    s.gaps = [.reset t] :: g → s.timerPending = false →
    ∃ u, step s = .next u ∧ u.stage = 0#5 ∧ u.settings = t ∧ u.trace = [] ∧ u.hs = false ∧
      u.irqMask = false ∧ u.lfo = ⟨0, 0⟩ ∧ u.input.adcReady = false ∧
      u.input.tapPending = false ∧ ParametersFromSettings u ∧
      (∀ c : Chan, (u.osc c).lp1 = fxZero ∧ (u.osc c).lp2 = fxZero) ∧
      u.output = { s.output with hsOut := false, ledMode := false } ∧
      u.input.adcCode = s.input.adcCode ∧
      u.input.tickNow = s.input.tickNow ∧ u.gaps = g

/-! ### What each operation does, and what it leaves alone -/

/-- INIT (46_scheduler.md rule R233). -/
def Obligations.InitDerivesTheParameters : Prop :=
  encode .init = 16#5 ∧
  ∀ s : State, ∃ t, exec .init s = .next t ∧
    (∀ c : Chan,
      (t.osc c).knobRange.toInt = refSub (s.settings.knobMax c).toInt (s.settings.knobMin c).toInt ∧
      (t.osc c).g0 = s.settings.smoothInitialGain ∧ (t.osc c).sens = s.settings.smoothSensitivity ∧
      (t.osc c).lp1 = fxZero ∧ (t.osc c).lp2 = fxZero ∧
      (t.osc c).period = (s.osc c).period ∧ (t.osc c).dacCode = (s.osc c).dacCode) ∧
    t = { s with stage := 0#5, oscL := t.oscL, oscF := t.oscF }

/-- POLL (46_scheduler.md rule R231), fresh data and none. -/
def Obligations.PollSnapshotsFreshData : Prop :=
  encode .poll = 0#5 ∧
  ∀ s : State,
    (s.input.adcReady = true → exec .poll s = .next { s with
      stage := 1#5
      work := { s.work with samples := s.input.adcCode, dv := true }
      input := { s.input with adcReady := false } }) ∧
    (s.input.adcReady = false → exec .poll s = .next { s with
      stage := 7#5
      work := { s.work with dv := false } })

/-- RESL (41_pitch_resolver.md rule R133). -/
def Obligations.ReslResolvesTheLeader : Prop :=
  encode .resl = 1#5 ∧
  ∀ s : State, ∃ t, exec .resl s = .next t ∧
    t.work.pl.toInt = refLeaderPitch s.settings s.oscL.knobRange.toInt s.work.samples ∧
    t = { s with stage := 2#5, work := { s.work with pl := t.work.pl } }

/-- RESF (41_pitch_resolver.md rule R134), follow mode and override. -/
def Obligations.ResfResolvesTheFollower : Prop :=
  encode .resf = 2#5 ∧
  ∀ s : State, ∃ t, exec .resf s = .next t ∧
    t.work.follow = refFollows s.settings s.work.samples ∧
    t.work.pf.toInt =
      refFollowerPitch s.settings s.oscF.knobRange.toInt s.work.pl.toInt s.work.samples ∧
    t = { s with
      stage := 3#5, work := { s.work with pf := t.work.pf, follow := t.work.follow } }

/-- SMTHL and SMTHF (42_smoothing.md rules R152 and R153): each steps its own filter instance by
rule R151 and touches no other. -/
def Obligations.SmoothingStepsItsOwnFilter : Prop :=
  encode .smthl = 3#5 ∧ encode .smthf = 4#5 ∧
  (∀ s : State, ∃ t, exec .smthl s = .next t ∧
    (t.oscL.lp1.toInt, t.oscL.lp2.toInt) =
      refSmooth s.oscL.g0.toInt s.oscL.sens.toInt s.oscL.lp1.toInt s.oscL.lp2.toInt
        s.work.pl.toInt ∧
    t = { s with
      stage := 4#5
      work := { s.work with sl := t.oscL.lp2 }
      oscL := { s.oscL with lp1 := t.oscL.lp1, lp2 := t.oscL.lp2 } }) ∧
  (∀ s : State, ∃ t, exec .smthf s = .next t ∧
    (t.oscF.lp1.toInt, t.oscF.lp2.toInt) =
      refSmooth s.oscF.g0.toInt s.oscF.sens.toInt s.oscF.lp1.toInt s.oscF.lp2.toInt
        s.work.pf.toInt ∧
    t = { s with
      stage := 5#5
      work := { s.work with sf := t.oscF.lp2 }
      oscF := { s.oscF with lp1 := t.oscF.lp1, lp2 := t.oscF.lp2 } })

/-- LFOADV (43_lfo.md rule R172). -/
def Obligations.LfoadvAdvancesByElapsedTicks : Prop :=
  encode .lfoadv = 5#5 ∧
  ∀ s : State, ∃ t, exec .lfoadv s = .next t ∧
    ((t.lfo.phase.toNat : Int), (t.lfo.last.toNat : Int)) =
      refAdvance s.settings.chorusFrequency.toInt s.lfo.phase.toNat s.lfo.last.toNat
        s.input.tickNow.toNat ∧
    t = { s with stage := 6#5, lfo := t.lfo }

/-- LFOMOD (43_lfo.md rule R176), with the normalised knob of rule R177. -/
def Obligations.LfomodModulatesTheFollower : Prop :=
  encode .lfomod = 6#5 ∧
  ∀ s : State, ∃ t, exec .lfomod s = .next t ∧
    t.work.mod.toInt = refModulation s.settings.chorusMaxIntensity.toInt
      s.work.samples.lfoKnob.toNat s.lfo.phase.toNat ∧
    t.work.ff.toInt = refAdd s.work.sf.toInt t.work.mod.toInt ∧
    t = { s with stage := 7#5, work := { s.work with mod := t.work.mod, ff := t.work.ff } }

/-- HSYNC (44_hard_sync.md rules R192 and R194): a tap toggles and notifies in order, no tap changes
nothing but `stage`. -/
def Obligations.HsyncTogglesOnATap : Prop :=
  encode .hsync = 7#5 ∧
  ∀ s : State,
    (s.input.tapPending = true → exec .hsync s = .next { s with
      stage := if s.work.dv then 8#5 else 0#5
      hs := !s.hs
      input := { s.input with tapPending := false }
      output := { s.output with hsOut := !s.hs, ledMode := !s.hs }
      trace := s.trace ++ [.hardSync (!s.hs), .ledMode (!s.hs)] }) ∧
    (s.input.tapPending = false → exec .hsync s = .next { s with
      stage := if s.work.dv then 8#5 else 0#5 })

/-- CLAMP (45_output_commit.md rule R200): [0.0, 7.0], on copies. -/
def Obligations.ClampLimitsBothPitches : Prop :=
  encode .clamp = 8#5 ∧
  ∀ s : State, ∃ t, exec .clamp s = .next t ∧
    t.work.cl.toInt = max 0 (min s.work.sl.toInt 458752) ∧
    t.work.cf.toInt = max 0 (min s.work.ff.toInt 458752) ∧
    t = { s with stage := 9#5, work := { s.work with cl := t.work.cl, cf := t.work.cf } }

/-- DUTY (45_output_commit.md rule R202): the saturated sum of rule R201, no wraparound. -/
def Obligations.DutySaturatesWithoutWrap : Prop :=
  encode .duty = 9#5 ∧
  ∀ s : State, ∃ t, exec .duty s = .next t ∧
    t.work.dutyL.toNat = min ((4095 - s.work.samples.pwmKnobL.toNat) +
      (4095 - s.work.samples.pwmCvL.toNat)) 4095 ∧
    t.work.dutyF.toNat = min ((4095 - s.work.samples.pwmKnobF.toNat) +
      (4095 - s.work.samples.pwmCvF.toNat)) 4095 ∧
    t = { s with
      stage := 10#5, work := { s.work with dutyL := t.work.dutyL, dutyF := t.work.dutyF } }

/-- LOOKUP (45_output_commit.md rule R203), for whatever table the machine has. -/
def Obligations.LookupStoresTheVoices : Prop :=
  encode .lookup = 10#5 ∧
  ∀ s : State, exec .lookup s = .next { s with
    stage := 11#5
    oscL := { s.oscL with
      period := (Config.lookup s.work.cl).period, dacCode := (Config.lookup s.work.cl).dacCode }
    oscF := { s.oscF with
      period := (Config.lookup s.work.cf).period, dacCode := (Config.lookup s.work.cf).dacCode } }

/-- IRQOFF and IRQON (45_output_commit.md rules R204 and R207). -/
def Obligations.MaskOperationsBracketTheCommit : Prop :=
  encode .irqoff = 11#5 ∧ encode .irqon = 14#5 ∧
  ∀ s : State,
    exec .irqoff s =
      .next { s with stage := 12#5, irqMask := true, trace := s.trace ++ [.irqMask true] } ∧
    exec .irqon s =
      .next { s with stage := 15#5, irqMask := false, trace := s.trace ++ [.irqMask false] }

/-- SETPER0 and SETPER1 (45_output_commit.md rules R205 and R206). -/
def Obligations.SetPeriodsCommitTheirChannel : Prop :=
  encode .setper0 = 12#5 ∧ encode .setper1 = 13#5 ∧
  ∀ s : State,
    exec .setper0 s = .next { s with
      stage := 13#5
      output := { s.output with period0 := s.oscL.period }
      trace := s.trace ++ [.setPeriod .leader s.oscL.period] } ∧
    exec .setper1 s = .next { s with
      stage := 14#5
      output := { s.output with period1 := s.oscF.period }
      trace := s.trace ++ [.setPeriod .follower s.oscF.period] }

/-- DACWR (45_output_commit.md rule R208): four words in one transaction, the reference flag (bit
12) set on the two pitch words only. -/
def Obligations.DacwrWritesFourWords : Prop :=
  encode .dacwr = 15#5 ∧
  ∀ s : State, ∃ w0 w1 w2 w3 : DacWord,
    w0.toNat = 4096 + s.oscL.dacCode.toNat ∧ w1.toNat = s.work.dutyL.toNat ∧
    w2.toNat = 4096 + s.oscF.dacCode.toNat ∧ w3.toNat = s.work.dutyF.toNat ∧
    exec .dacwr s = .next { s with
      stage := 0#5
      output := { s.output with dac0 := w0, dac1 := w1, dac2 := w2, dac3 := w3 }
      trace := s.trace ++ [.dacWrite w0 w1 w2 w3] }

/-! ### Arithmetic -/

/-- `fx_mul` errs by at most half an LSB, a tie going up, and otherwise saturates to the side the
product lies on (40_fixed_point.md rules R105 and R112 (b), (d)). -/
def Obligations.MultiplyRoundsToNearest : Prop :=
  ∀ a b : Fix,
    (-140737488388096 ≤ a.toInt * b.toInt ∧ a.toInt * b.toInt < 140737488322560 →
      -32768 < 65536 * (fxMul a b).toInt - a.toInt * b.toInt ∧
      65536 * (fxMul a b).toInt - a.toInt * b.toInt ≤ 32768) ∧
    (a.toInt * b.toInt < -140737488388096 → fxMul a b = fixMin) ∧
    (140737488322560 ≤ a.toInt * b.toInt → fxMul a b = fixMax)

/-- `fx_div` (40_fixed_point.md rule R106). With the operands' signs normalised to a positive divisor
`q`, it errs by at most half an LSB of the quotient, a tie going up, where the rounded quotient is in
range, and otherwise saturates to the side the quotient lies on; a zero divisor saturates by the
dividend's sign. Both signs negated give the same result, and `FIX_MIN / -1.0` is `FIX_MAX`. -/
def Obligations.DivideRoundsToNearest : Prop :=
  (∀ (a b : Fix) (p q : Int), 0 < q →
    (p = a.toInt ∧ q = b.toInt ∨ p = -a.toInt ∧ q = -b.toInt) →
    (-4294967296 * q ≤ 131072 * p + q ∧ 131072 * p + q < 4294967296 * q →
      -q < 2 * q * (fxDiv a b).toInt - 131072 * p ∧
      2 * q * (fxDiv a b).toInt - 131072 * p ≤ q) ∧
    (131072 * p + q < -4294967296 * q → fxDiv a b = fixMin) ∧
    (4294967296 * q ≤ 131072 * p + q → fxDiv a b = fixMax)) ∧
  (∀ a b : Fix, b.toInt = 0 → fxDiv a b = if 0 ≤ a.toInt then fixMax else fixMin) ∧
  (∀ a b a' b' : Fix, a'.toInt = -a.toInt → b'.toInt = -b.toInt → b.toInt ≠ 0 →
    fxDiv a' b' = fxDiv a b) ∧
  fxDiv fixMin 0xFFFF0000#32 = fixMax

/-- The monotonicity laws of 40_fixed_point.md rule R112 (e). -/
def Obligations.ArithmeticIsMonotone : Prop :=
  ∀ a a' b : Fix, a.toInt ≤ a'.toInt →
    (fxAdd a b).toInt ≤ (fxAdd a' b).toInt ∧ (fxSub a b).toInt ≤ (fxSub a' b).toInt ∧
    (0 ≤ b.toInt → (fxMul a b).toInt ≤ (fxMul a' b).toInt) ∧
    (0 < b.toInt → (fxDiv a b).toInt ≤ (fxDiv a' b).toInt) ∧
    (fxMin a b).toInt ≤ (fxMin a' b).toInt ∧ (fxMax a b).toInt ≤ (fxMax a' b).toInt ∧
    (∀ lo hi : Fix, (fxClamp a lo hi).toInt ≤ (fxClamp a' lo hi).toInt)

/-- The exactness laws of 40_fixed_point.md rule R112 (c). -/
def Obligations.ArithmeticIsExactWhereStated : Prop :=
  (∀ (a : Fix) (n : Int), -32767 ≤ n → n ≤ 32767 → fxMul a (fxFromInt n) = sat32 (a.toInt * n)) ∧
  (∀ a : Fix, fxMul a fxOne = a ∧ fxMul a fxZero = fxZero ∧ fxDiv a fxOne = a) ∧
  (∀ a : Fix, a ≠ fxZero → fxDiv a a = fxOne) ∧
  (∀ a b : Fix, -2147483648 ≤ a.toInt + b.toInt → a.toInt + b.toInt ≤ 2147483647 →
    (fxAdd a b).toInt = a.toInt + b.toInt) ∧
  (∀ a b : Fix, -2147483648 ≤ a.toInt - b.toInt → a.toInt - b.toInt ≤ 2147483647 →
    (fxSub a b).toInt = a.toInt - b.toInt)

/-- `norm` is the nearest `Fix` to `c / 4095`: the closed form of 40_fixed_point.md rule R110, its
end points, its monotonicity and its range. -/
def Obligations.NormMapsCodesToTheUnitInterval : Prop :=
  (∀ c : Code, (norm c).toInt = (2 * c.toNat * 65536 + 4095) / 8190 ∧
    0 ≤ (norm c).toInt ∧ (norm c).toInt ≤ 65536) ∧
  (∀ c c' : Code, c.toNat ≤ c'.toNat → (norm c).toInt ≤ (norm c').toInt) ∧
  norm 0#12 = fxZero ∧ norm 4095#12 = fxOne

/-! ### Resolver -/

/-- Follow-mode correctness (41_pitch_resolver.md rule R135). -/
def Obligations.FollowModeTracksTheLeader : Prop :=
  ∀ s : State, (inv s.work.samples.cvF).toNat ≤ s.settings.followerThreshold.toNat % 4096 →
    ∃ t, exec .resf s = .next t ∧ t.work.follow = true ∧
      t.work.pf = fxAdd s.work.pl
        (knobFine s.settings s.oscF.knobRange .follower (inv s.work.samples.knobF))

/-- Override correctness (41_pitch_resolver.md rule R136): in override the follower depends on its
own two samples and the Settings alone, whatever the leader's samples and pitch are. -/
def Obligations.OverrideIgnoresTheLeader : Prop :=
  ∀ s s' : State, s.stage = 2#5 → s'.stage = 2#5 → ParametersFromSettings s →
    ParametersFromSettings s' → s.settings = s'.settings →
    s.work.samples.cvF = s'.work.samples.cvF → s.work.samples.knobF = s'.work.samples.knobF →
    s.settings.followerThreshold.toNat % 4096 < (inv s.work.samples.cvF).toNat →
    ∃ t t', exec .resf s = .next t ∧ exec .resf s' = .next t' ∧
      t.work.pf = t'.work.pf ∧ t.work.follow = false ∧ t'.work.follow = false

/-- The range of the leader's pitch with identity calibration and no saturation (41_pitch_resolver.md
rule R138). -/
def Obligations.LeaderPitchRange : Prop :=
  ∀ s : State,
    s.settings.knobCalOffset = fxZero → s.settings.knobCalGain = fxOne →
    0 ≤ s.settings.cvInputRange.toInt → s.settings.knobMinL.toInt ≤ s.settings.knobMaxL.toInt →
    s.oscL.knobRange = fxSub s.settings.knobMaxL s.settings.knobMinL →
    s.settings.knobMaxL.toInt - s.settings.knobMinL.toInt ≤ 2147483647 →
    s.settings.cvBaseOffset.toInt + s.settings.cvInputRange.toInt ≤ 2147483647 →
    -2147483648 ≤ s.settings.cvBaseOffset.toInt + s.settings.knobMinL.toInt →
    s.settings.cvBaseOffset.toInt + s.settings.cvInputRange.toInt + s.settings.knobMaxL.toInt
      ≤ 2147483647 →
    ∃ t, exec .resl s = .next t ∧
      s.settings.cvBaseOffset.toInt + s.settings.knobMinL.toInt ≤ t.work.pl.toInt ∧
      t.work.pl.toInt ≤ s.settings.cvBaseOffset.toInt + s.settings.cvInputRange.toInt +
        s.settings.knobMaxL.toInt

/-! ### Smoothing -/

/-- The adaptive gain (42_smoothing.md rules R155 (a) and R156): between `g0` and 1.0, equal to `g0`
without sensitivity, and non-decreasing in the sensitivity. -/
def Obligations.GainAdaptsBetweenItsBounds : Prop :=
  ∀ o : Osc, 0 < o.g0.toInt → o.g0.toInt ≤ 65536 → 0 ≤ o.sens.toInt →
    o.g0.toInt ≤ (smoothGain o).toInt ∧ (smoothGain o).toInt ≤ 65536 ∧
    (o.sens = fxZero → smoothGain o = o.g0) ∧
    (∀ z : Fix, o.sens.toInt ≤ z.toInt →
      (smoothGain o).toInt ≤ (smoothGain { o with sens := z }).toInt)

/-- No stage overshoots its target, and a larger gain never leaves it farther from it
(42_smoothing.md rules R155 (a) and R156). -/
def Obligations.StageNeverOvershoots : Prop :=
  ∀ g x lp : Fix, 0 ≤ g.toInt → g.toInt ≤ 65536 →
    min lp.toInt x.toInt ≤ (stageToward g x lp).toInt ∧
    (stageToward g x lp).toInt ≤ max lp.toInt x.toInt ∧
    (∀ g' : Fix, g.toInt ≤ g'.toInt → g'.toInt ≤ 65536 →
      |x.toInt - (stageToward g' x lp).toInt| ≤ |x.toInt - (stageToward g x lp).toInt|)

/-- The stall band (42_smoothing.md rule R155 (b)): a stage does not move exactly when the gain times
the distance rounds to zero. -/
def Obligations.StallBand : Prop :=
  ∀ g x lp : Fix, 0 < g.toInt → g.toInt ≤ 65536 →
    -2147483648 ≤ x.toInt - lp.toInt → x.toInt - lp.toInt ≤ 2147483647 →
    (stageToward g x lp = lp ↔
      -32768 ≤ g.toInt * (x.toInt - lp.toInt) ∧ g.toInt * (x.toInt - lp.toInt) < 32768)

/-- A fixed point of the filter lies within the rounding band of its target (42_smoothing.md rule
R155 (c)). -/
def Obligations.FixedPointIsNearTheTarget : Prop :=
  ∀ (o : Osc) (x : Fix), 0 < o.g0.toInt → o.g0.toInt ≤ 65536 → 0 ≤ o.sens.toInt →
    smoothStep o x = o →
    |x.toInt - o.lp1.toInt| ≤ 32768 / o.g0.toInt ∧
    |o.lp1.toInt - o.lp2.toInt| ≤ 32768 / o.g0.toInt ∧
    |x.toInt - o.lp2.toInt| ≤ 2 * (32768 / o.g0.toInt)

/-- Held at a constant target the filter reaches a fixed point after finitely many steps, from every
state of its accumulators (42_smoothing.md rule R155 (c)). -/
def Obligations.FilterReachesAFixedPoint : Prop :=
  ∀ (o : Osc) (x : Fix), 0 < o.g0.toInt → o.g0.toInt ≤ 65536 → 0 ≤ o.sens.toInt →
    ∃ n : Nat, smoothStep ((fun p => smoothStep p x)^[n] o) x = (fun p => smoothStep p x)^[n] o

/-! ### LFO -/

/-- The phase advance is linear in the elapsed ticks and needs only 16 bits of each factor
(43_lfo.md rules R172 and R174): two advances in a row are one by the sum. -/
def Obligations.PhaseAdvanceIsLinear : Prop :=
  ∀ (k : Fix) (p : Phase) (e e' : Tick),
    ((advancePhase k p e).toNat : Int) = (p.toNat + k.toInt * e.toNat) % 65536 ∧
    ((advancePhase k p e).toNat : Int) =
      (p.toNat + (k.toInt % 65536) * (e.toNat % 65536 : Nat)) % 65536 ∧
    advancePhase k (advancePhase k p e) e' = advancePhase k p (e + e')

/-- The phase increment per tick for a non-negative frequency (43_lfo.md rule R171). -/
def Obligations.PhaseIncrementPerTick : Prop :=
  ∀ f : Fix, 0 ≤ f.toInt →
    (lfoK f).toInt = (2 * f.toInt * 65536 + 65536000) / 131072000 ∧
    ((lfoK f).toInt = 0 ↔ f.toInt < 500)

/-- The triangle (43_lfo.md rule R175): its two slopes, its range, its peak and its symmetry. -/
def Obligations.TriangleIsUnipolar : Prop :=
  ∀ p : Phase,
    (p.toNat < 32768 → (tri p).toInt = 2 * p.toNat) ∧
    (32768 ≤ p.toNat → (tri p).toInt = 2 * (65536 - p.toNat)) ∧
    0 ≤ (tri p).toInt ∧ (tri p).toInt ≤ 65536 ∧
    ((tri p).toInt = 65536 ↔ p.toNat = 32768) ∧ tri (-p) = tri p

/-- With a non-negative maximum intensity the modulation lies between 0 and it (43_lfo.md rule
R176, corner cases). -/
def Obligations.ModulationNeverExceedsTheIntensity : Prop :=
  ∀ s : State, 0 ≤ s.settings.chorusMaxIntensity.toInt →
    ∃ t, exec .lfomod s = .next t ∧ 0 ≤ t.work.mod.toInt ∧
      t.work.mod.toInt ≤ s.settings.chorusMaxIntensity.toInt ∧
      (s.work.samples.lfoKnob = 4095#12 → t.work.mod = fxZero ∧ t.work.ff = s.work.sf)

/-! ### External agents -/

/-- A gap without a reset leaves everything the block owns as it was, and adds to the trace only
timer reads of the committed registers (10_state.md rule R20, 20_memory.md rules R64 and R65). Each
sample latch holds the last code the ADC agent wrote to it in the gap, the others what they held, and
the tick count has advanced by the gap's ticks modulo 2^32. That the moves are data of the state is
the model's (log entry 7). -/
def Obligations.AgentsLeaveTheBlockAlone : Prop :=
  ∀ s : State, noResetNext s →
    (∃ n : Nat, (n ≠ 0 → s.irqMask = false) ∧
      runGap s = { s with
        input := (runGap s).input
        timerPending := (runGap s).timerPending
        trace := s.trace ++ List.replicate n (.timerRead s.output.period0 s.output.period1)
        gaps := s.gaps.tail }) ∧
    (∀ ch : AdcChannel, (runGap s).input.adcCode.get ch =
      codeAfter ch (s.input.adcCode.get ch) (s.gaps.headD [])) ∧
    (runGap s).input.tickNow.toNat =
      (s.input.tickNow.toNat + ticksIn (s.gaps.headD [])) % 4294967296

/-- While the mask is set the timer agent has no step and occurrences collapse into one pending
occurrence; once it is clear the pending one is read first, once, and each occurrence that falls due
in the gap is read once (60_exceptions.md rule R254). That it is served at the very next gap is the
model's (log entry 8). -/
def Obligations.MaskedTimerReadsAreDeferred : Prop :=
  ∀ s : State, noResetNext s →
    (s.irqMask = true → (runGap s).trace = s.trace ∧
      ((runGap s).timerPending = true ↔ s.timerPending = true ∨ .timerDue ∈ s.gaps.headD [])) ∧
    (s.irqMask = false → (runGap s).timerPending = false ∧
      (runGap s).trace = s.trace ++ List.replicate
        ((if s.timerPending then 1 else 0) + (s.gaps.headD []).count .timerDue)
        (.timerRead s.output.period0 s.output.period1))

/-- A set of `adc_ready` or `tap_pending` is never lost: a gap without a reset only sets them, and
only POLL and HSYNC clear them, when they read 1 (20_memory.md rule R60; `gaps` is the model's, log
entry 7). -/
def Obligations.SetsAreNeverLost : Prop :=
  (∀ s : State, noResetNext s →
    ((runGap s).input.tapPending = true ↔
      s.input.tapPending = true ∨ .tap ∈ s.gaps.headD []) ∧
    ((runGap s).input.adcReady = true ↔
      s.input.adcReady = true ∨ .adcReady ∈ s.gaps.headD [])) ∧
  (∀ (i : Instr) (s : State), ∃ t, exec i s = .next t ∧
    t.input.adcReady = (s.input.adcReady && i != .poll) ∧
    t.input.tapPending = (s.input.tapPending && i != .hsync))

/-- No operation but POLL reads the sample latches, so codes written during a pass do not touch it
(70_reset_and_hazards.md rule R286). -/
def Obligations.LaterSamplesDoNotTouchThePass : Prop :=
  ∀ (i : Instr) (s : State) (c : AdcCodes), i ≠ .poll → ∃ t, exec i s = .next t ∧
    exec i { s with input := { s.input with adcCode := c } } =
      .next { t with input := { t.input with adcCode := c } }

/-- The toggle does not feed the pitch computation: no operation but HSYNC reads or writes `HS`
(44_hard_sync.md rule R192). -/
def Obligations.ToggleDoesNotFeedThePitch : Prop :=
  ∀ (i : Instr) (s : State) (b : Bool), i ≠ .hsync → ∃ t, exec i s = .next t ∧ t.hs = s.hs ∧
    exec i { s with hs := b } = .next { t with hs := b }

/-- Ownership (10_state.md rules R20, R25 and R27): no operation writes a Settings register, a sample
latch, the tick count, the timer source's pending bit or the agents' coming moves (the model's own
field, log entry 7), and no operation shortens the trace. -/
def Obligations.OperationsLeaveSettingsLatchesAndTicks : Prop :=
  ∀ (i : Instr) (s : State), ∃ t, exec i s = .next t ∧ t.settings = s.settings ∧
    t.input.adcCode = s.input.adcCode ∧ t.input.tickNow = s.input.tickNow ∧
    t.timerPending = s.timerPending ∧ t.gaps = s.gaps ∧ s.trace <+: t.trace

/-! ### Whole-machine rules -/

/-- Reset satisfies every invariant below (10_state.md rule R34). -/
def Obligations.ResetSatisfiesTheInvariants : Prop := Invariant State.reset

/-- The atomic commit (20_memory.md rule R67): every timer read sees two periods committed by one
pass, under any interleaving of the external agents (as `gaps`, log entry 7); every step keeps it. -/
def Obligations.EveryStepKeepsTheAtomicCommit : Prop :=
  ∀ s t : State, AtomicCommit s → step s = .next t → AtomicCommit t

/-- `HS` is the parity of the consumed taps and the notification ports follow it (44_hard_sync.md
rule R193); every step keeps it. -/
def Obligations.EveryStepKeepsTheSyncParity : Prop :=
  ∀ s t : State, SyncFollowsTaps s → step s = .next t → SyncFollowsTaps t

/-- `LFO.phase = (lfo_k × LFO.last) mod 65536` (43_lfo.md rule R174); every step keeps it. -/
def Obligations.EveryStepKeepsThePhaseLaw : Prop :=
  ∀ s t : State, PhaseTracksTick s → step s = .next t → PhaseTracksTick t

/-- After INIT the filters and knob ranges are those of the Settings, equal for both oscillators
(42_smoothing.md rule R150, 46_scheduler.md rule R233); every step keeps it. -/
def Obligations.EveryStepKeepsTheParameters : Prop :=
  ∀ s t : State, ParametersFromSettings s → step s = .next t → ParametersFromSettings t

/-- The clamp property (45_output_commit.md rule R210): every step keeps it, and a step that runs
LOOKUP passes arguments in [0.0, 7.0] to the table. -/
def Obligations.EveryLookupArgumentIsInRange : Prop :=
  ∀ s t : State, LookupArgumentsInRange s → step s = .next t →
    LookupArgumentsInRange t ∧
    (decode (runGap s).stage = .ok .lookup →
      inTableRange (runGap s).work.cl ∧ inTableRange (runGap s).work.cf)

/-- All the invariants hold in every state of every run, whatever the external agents do (as `gaps`,
log entry 7). -/
def Obligations.EveryRunKeepsTheInvariants : Prop :=
  ∀ (s t : State) (k : Nat), Invariant s → Host.Core.run core k s = .next t → Invariant t

/-- The block never stops: from a legal stage every run goes on for ever (46_scheduler.md rules R235
and R238, 60_exceptions.md rule R250). -/
def Obligations.NoRunEverStops : Prop :=
  ∀ (s : State) (k : Nat), StageLegal s →
    ∃ t : State, Host.Core.run core k s = .next t ∧ StageLegal t

/-- The critical section under any interleaving (45_output_commit.md rule R209, 20_memory.md rule
R66): from IRQOFF on, four steps without a reset append the two mask events and the two period
writes, with no timer read among them; reads before IRQOFF see the old pair. The agents' moves are
those of `gaps` (log entry 7). -/
def Obligations.CriticalSectionAdmitsNoTimerRead : Prop :=
  ∀ s : State, s.stage = 11#5 → (∀ g ∈ s.gaps.take 4, ∀ m ∈ g, m.isReset = false) →
    ∃ (t : State) (n : Nat), Host.Core.run core 4 s = .next t ∧ t.stage = 15#5 ∧
      t.irqMask = false ∧
      t.output = { s.output with period0 := s.oscL.period, period1 := s.oscF.period } ∧
      t.trace = s.trace ++ List.replicate n (.timerRead s.output.period0 s.output.period1) ++
        [.irqMask true, .setPeriod .leader s.oscL.period, .setPeriod .follower s.oscF.period,
         .irqMask false]

/-- Until the ADC agent sets `adc_ready`, every pass is idle: for ever, whatever the other agents do
short of a reset, nothing but the tap machinery changes, and the trace gains nothing but its
notifications and reads of the committed periods (46_scheduler.md rule R234, 45_output_commit.md rule
R209, 70_reset_and_hazards.md rule R283; the agents' moves are those of `gaps`, log entry 7). -/
def Obligations.IdlePassesTouchOnlyTheTap : Prop :=
  ∀ (s : State) (k : Nat), s.stage = 0#5 → s.input.adcReady = false →
    (∀ g ∈ s.gaps, ∀ m ∈ g, m ≠ .adcReady ∧ m.isReset = false) →
    ∃ t : State, Host.Core.run core k s = .next t ∧ OnlyTapChanged s t ∧
      (t.stage = 0#5 ∨ t.stage = 7#5)

/-- The big-step form (46_scheduler.md rule R236): with no external agent moving during it, a pass of
the machine, 16 operations with fresh data or 2 without, is the reference pass over unbounded
integers of what it finds at its start (an empty `gaps` is the model's form of quiet agents, log
entry 7). -/
def Obligations.PassIsTheReferencePass : Prop :=
  ∀ s : State, s.stage = 0#5 → s.irqMask = false → s.gaps = [] → s.timerPending = false →
    ∃ t : State, Host.Core.run core (if s.input.adcReady then 16 else 2) s = .next t ∧
      t.refBlock = refPass s.settings s.refBlock s.passHeader ∧
      t.stage = 0#5 ∧ t.irqMask = false ∧ t.settings = s.settings ∧
      t.input = { s.input with adcReady := false, tapPending := false }

/-- Waiting for data is kept by every step, and such a step changes nothing but the tap machinery
(46_scheduler.md rule R234, 45_output_commit.md rule R209; the agents' moves are those of `gaps`, log
entry 7). -/
def Obligations.EveryStepKeepsAwaitingData : Prop :=
  ∀ s t : State, AwaitsData s → step s = .next t → AwaitsData t ∧ OnlyTapChanged s t
end

