-- ==== Sys2Proof/Laws/State.lean ====
section
/-! SUPPORT. One lemma per field per update of the state (true by `rfl`), and one lemma per port
write that says once what it changes. -/

namespace Sys2Proof.Machine

/-! `setStage` -/

@[simp] theorem State.setStage_stage (s : State) (c : StageCode) : (s.setStage c).stage = c := rfl
@[simp] theorem State.setStage_work (s : State) (c : StageCode) : (s.setStage c).work = s.work := rfl
@[simp] theorem State.setStage_settings (s : State) (c : StageCode) : (s.setStage c).settings = s.settings := rfl
@[simp] theorem State.setStage_oscL (s : State) (c : StageCode) : (s.setStage c).oscL = s.oscL := rfl
@[simp] theorem State.setStage_oscF (s : State) (c : StageCode) : (s.setStage c).oscF = s.oscF := rfl
@[simp] theorem State.setStage_lfo (s : State) (c : StageCode) : (s.setStage c).lfo = s.lfo := rfl
@[simp] theorem State.setStage_hs (s : State) (c : StageCode) : (s.setStage c).hs = s.hs := rfl
@[simp] theorem State.setStage_irqMask (s : State) (c : StageCode) : (s.setStage c).irqMask = s.irqMask := rfl
@[simp] theorem State.setStage_input (s : State) (c : StageCode) : (s.setStage c).input = s.input := rfl
@[simp] theorem State.setStage_output (s : State) (c : StageCode) : (s.setStage c).output = s.output := rfl
@[simp] theorem State.setStage_timerPending (s : State) (c : StageCode) : (s.setStage c).timerPending = s.timerPending := rfl
@[simp] theorem State.setStage_trace (s : State) (c : StageCode) : (s.setStage c).trace = s.trace := rfl
@[simp] theorem State.setStage_gaps (s : State) (c : StageCode) : (s.setStage c).gaps = s.gaps := rfl

/-! `setWork` -/

@[simp] theorem State.setWork_stage (s : State) (w : Work) : (s.setWork w).stage = s.stage := rfl
@[simp] theorem State.setWork_work (s : State) (w : Work) : (s.setWork w).work = w := rfl
@[simp] theorem State.setWork_settings (s : State) (w : Work) : (s.setWork w).settings = s.settings := rfl
@[simp] theorem State.setWork_oscL (s : State) (w : Work) : (s.setWork w).oscL = s.oscL := rfl
@[simp] theorem State.setWork_oscF (s : State) (w : Work) : (s.setWork w).oscF = s.oscF := rfl
@[simp] theorem State.setWork_lfo (s : State) (w : Work) : (s.setWork w).lfo = s.lfo := rfl
@[simp] theorem State.setWork_hs (s : State) (w : Work) : (s.setWork w).hs = s.hs := rfl
@[simp] theorem State.setWork_irqMask (s : State) (w : Work) : (s.setWork w).irqMask = s.irqMask := rfl
@[simp] theorem State.setWork_input (s : State) (w : Work) : (s.setWork w).input = s.input := rfl
@[simp] theorem State.setWork_output (s : State) (w : Work) : (s.setWork w).output = s.output := rfl
@[simp] theorem State.setWork_timerPending (s : State) (w : Work) : (s.setWork w).timerPending = s.timerPending := rfl
@[simp] theorem State.setWork_trace (s : State) (w : Work) : (s.setWork w).trace = s.trace := rfl
@[simp] theorem State.setWork_gaps (s : State) (w : Work) : (s.setWork w).gaps = s.gaps := rfl

/-! `setLfo` -/

@[simp] theorem State.setLfo_stage (s : State) (l : Lfo) : (s.setLfo l).stage = s.stage := rfl
@[simp] theorem State.setLfo_work (s : State) (l : Lfo) : (s.setLfo l).work = s.work := rfl
@[simp] theorem State.setLfo_settings (s : State) (l : Lfo) : (s.setLfo l).settings = s.settings := rfl
@[simp] theorem State.setLfo_oscL (s : State) (l : Lfo) : (s.setLfo l).oscL = s.oscL := rfl
@[simp] theorem State.setLfo_oscF (s : State) (l : Lfo) : (s.setLfo l).oscF = s.oscF := rfl
@[simp] theorem State.setLfo_lfo (s : State) (l : Lfo) : (s.setLfo l).lfo = l := rfl
@[simp] theorem State.setLfo_hs (s : State) (l : Lfo) : (s.setLfo l).hs = s.hs := rfl
@[simp] theorem State.setLfo_irqMask (s : State) (l : Lfo) : (s.setLfo l).irqMask = s.irqMask := rfl
@[simp] theorem State.setLfo_input (s : State) (l : Lfo) : (s.setLfo l).input = s.input := rfl
@[simp] theorem State.setLfo_output (s : State) (l : Lfo) : (s.setLfo l).output = s.output := rfl
@[simp] theorem State.setLfo_timerPending (s : State) (l : Lfo) : (s.setLfo l).timerPending = s.timerPending := rfl
@[simp] theorem State.setLfo_trace (s : State) (l : Lfo) : (s.setLfo l).trace = s.trace := rfl
@[simp] theorem State.setLfo_gaps (s : State) (l : Lfo) : (s.setLfo l).gaps = s.gaps := rfl

/-! `setHs` -/

@[simp] theorem State.setHs_stage (s : State) (b : Bool) : (s.setHs b).stage = s.stage := rfl
@[simp] theorem State.setHs_work (s : State) (b : Bool) : (s.setHs b).work = s.work := rfl
@[simp] theorem State.setHs_settings (s : State) (b : Bool) : (s.setHs b).settings = s.settings := rfl
@[simp] theorem State.setHs_oscL (s : State) (b : Bool) : (s.setHs b).oscL = s.oscL := rfl
@[simp] theorem State.setHs_oscF (s : State) (b : Bool) : (s.setHs b).oscF = s.oscF := rfl
@[simp] theorem State.setHs_lfo (s : State) (b : Bool) : (s.setHs b).lfo = s.lfo := rfl
@[simp] theorem State.setHs_hs (s : State) (b : Bool) : (s.setHs b).hs = b := rfl
@[simp] theorem State.setHs_irqMask (s : State) (b : Bool) : (s.setHs b).irqMask = s.irqMask := rfl
@[simp] theorem State.setHs_input (s : State) (b : Bool) : (s.setHs b).input = s.input := rfl
@[simp] theorem State.setHs_output (s : State) (b : Bool) : (s.setHs b).output = s.output := rfl
@[simp] theorem State.setHs_timerPending (s : State) (b : Bool) : (s.setHs b).timerPending = s.timerPending := rfl
@[simp] theorem State.setHs_trace (s : State) (b : Bool) : (s.setHs b).trace = s.trace := rfl
@[simp] theorem State.setHs_gaps (s : State) (b : Bool) : (s.setHs b).gaps = s.gaps := rfl

/-! `setInput` -/

@[simp] theorem State.setInput_stage (s : State) (x : Inputs) : (s.setInput x).stage = s.stage := rfl
@[simp] theorem State.setInput_work (s : State) (x : Inputs) : (s.setInput x).work = s.work := rfl
@[simp] theorem State.setInput_settings (s : State) (x : Inputs) : (s.setInput x).settings = s.settings := rfl
@[simp] theorem State.setInput_oscL (s : State) (x : Inputs) : (s.setInput x).oscL = s.oscL := rfl
@[simp] theorem State.setInput_oscF (s : State) (x : Inputs) : (s.setInput x).oscF = s.oscF := rfl
@[simp] theorem State.setInput_lfo (s : State) (x : Inputs) : (s.setInput x).lfo = s.lfo := rfl
@[simp] theorem State.setInput_hs (s : State) (x : Inputs) : (s.setInput x).hs = s.hs := rfl
@[simp] theorem State.setInput_irqMask (s : State) (x : Inputs) : (s.setInput x).irqMask = s.irqMask := rfl
@[simp] theorem State.setInput_input (s : State) (x : Inputs) : (s.setInput x).input = x := rfl
@[simp] theorem State.setInput_output (s : State) (x : Inputs) : (s.setInput x).output = s.output := rfl
@[simp] theorem State.setInput_timerPending (s : State) (x : Inputs) : (s.setInput x).timerPending = s.timerPending := rfl
@[simp] theorem State.setInput_trace (s : State) (x : Inputs) : (s.setInput x).trace = s.trace := rfl
@[simp] theorem State.setInput_gaps (s : State) (x : Inputs) : (s.setInput x).gaps = s.gaps := rfl

/-! `setOutput` -/

@[simp] theorem State.setOutput_stage (s : State) (o : Outputs) : (s.setOutput o).stage = s.stage := rfl
@[simp] theorem State.setOutput_work (s : State) (o : Outputs) : (s.setOutput o).work = s.work := rfl
@[simp] theorem State.setOutput_settings (s : State) (o : Outputs) : (s.setOutput o).settings = s.settings := rfl
@[simp] theorem State.setOutput_oscL (s : State) (o : Outputs) : (s.setOutput o).oscL = s.oscL := rfl
@[simp] theorem State.setOutput_oscF (s : State) (o : Outputs) : (s.setOutput o).oscF = s.oscF := rfl
@[simp] theorem State.setOutput_lfo (s : State) (o : Outputs) : (s.setOutput o).lfo = s.lfo := rfl
@[simp] theorem State.setOutput_hs (s : State) (o : Outputs) : (s.setOutput o).hs = s.hs := rfl
@[simp] theorem State.setOutput_irqMask (s : State) (o : Outputs) : (s.setOutput o).irqMask = s.irqMask := rfl
@[simp] theorem State.setOutput_input (s : State) (o : Outputs) : (s.setOutput o).input = s.input := rfl
@[simp] theorem State.setOutput_output (s : State) (o : Outputs) : (s.setOutput o).output = o := rfl
@[simp] theorem State.setOutput_timerPending (s : State) (o : Outputs) : (s.setOutput o).timerPending = s.timerPending := rfl
@[simp] theorem State.setOutput_trace (s : State) (o : Outputs) : (s.setOutput o).trace = s.trace := rfl
@[simp] theorem State.setOutput_gaps (s : State) (o : Outputs) : (s.setOutput o).gaps = s.gaps := rfl

/-! `setTimerPending` -/

@[simp] theorem State.setTimerPending_stage (s : State) (b : Bool) : (s.setTimerPending b).stage = s.stage := rfl
@[simp] theorem State.setTimerPending_work (s : State) (b : Bool) : (s.setTimerPending b).work = s.work := rfl
@[simp] theorem State.setTimerPending_settings (s : State) (b : Bool) : (s.setTimerPending b).settings = s.settings := rfl
@[simp] theorem State.setTimerPending_oscL (s : State) (b : Bool) : (s.setTimerPending b).oscL = s.oscL := rfl
@[simp] theorem State.setTimerPending_oscF (s : State) (b : Bool) : (s.setTimerPending b).oscF = s.oscF := rfl
@[simp] theorem State.setTimerPending_lfo (s : State) (b : Bool) : (s.setTimerPending b).lfo = s.lfo := rfl
@[simp] theorem State.setTimerPending_hs (s : State) (b : Bool) : (s.setTimerPending b).hs = s.hs := rfl
@[simp] theorem State.setTimerPending_irqMask (s : State) (b : Bool) : (s.setTimerPending b).irqMask = s.irqMask := rfl
@[simp] theorem State.setTimerPending_input (s : State) (b : Bool) : (s.setTimerPending b).input = s.input := rfl
@[simp] theorem State.setTimerPending_output (s : State) (b : Bool) : (s.setTimerPending b).output = s.output := rfl
@[simp] theorem State.setTimerPending_timerPending (s : State) (b : Bool) : (s.setTimerPending b).timerPending = b := rfl
@[simp] theorem State.setTimerPending_trace (s : State) (b : Bool) : (s.setTimerPending b).trace = s.trace := rfl
@[simp] theorem State.setTimerPending_gaps (s : State) (b : Bool) : (s.setTimerPending b).gaps = s.gaps := rfl

/-! `emit` -/

@[simp] theorem State.emit_stage (s : State) (e : Event) : (s.emit e).stage = s.stage := rfl
@[simp] theorem State.emit_work (s : State) (e : Event) : (s.emit e).work = s.work := rfl
@[simp] theorem State.emit_settings (s : State) (e : Event) : (s.emit e).settings = s.settings := rfl
@[simp] theorem State.emit_oscL (s : State) (e : Event) : (s.emit e).oscL = s.oscL := rfl
@[simp] theorem State.emit_oscF (s : State) (e : Event) : (s.emit e).oscF = s.oscF := rfl
@[simp] theorem State.emit_lfo (s : State) (e : Event) : (s.emit e).lfo = s.lfo := rfl
@[simp] theorem State.emit_hs (s : State) (e : Event) : (s.emit e).hs = s.hs := rfl
@[simp] theorem State.emit_irqMask (s : State) (e : Event) : (s.emit e).irqMask = s.irqMask := rfl
@[simp] theorem State.emit_input (s : State) (e : Event) : (s.emit e).input = s.input := rfl
@[simp] theorem State.emit_output (s : State) (e : Event) : (s.emit e).output = s.output := rfl
@[simp] theorem State.emit_timerPending (s : State) (e : Event) : (s.emit e).timerPending = s.timerPending := rfl
@[simp] theorem State.emit_trace (s : State) (e : Event) : (s.emit e).trace = s.trace ++ [e] := rfl
@[simp] theorem State.emit_gaps (s : State) (e : Event) : (s.emit e).gaps = s.gaps := rfl

/-! `setOsc` -/

@[simp] theorem State.setOsc_leader_oscL (s : State) (o : Osc) : (s.setOsc .leader o).oscL = o := rfl
@[simp] theorem State.setOsc_leader_oscF (s : State) (o : Osc) : (s.setOsc .leader o).oscF = s.oscF := rfl
@[simp] theorem State.setOsc_follower_oscL (s : State) (o : Osc) : (s.setOsc .follower o).oscL = s.oscL := rfl
@[simp] theorem State.setOsc_follower_oscF (s : State) (o : Osc) : (s.setOsc .follower o).oscF = o := rfl
@[simp] theorem State.setOsc_stage (s : State) (c : Chan) (o : Osc) : (s.setOsc c o).stage = s.stage := by
  cases c <;> rfl
@[simp] theorem State.setOsc_work (s : State) (c : Chan) (o : Osc) : (s.setOsc c o).work = s.work := by
  cases c <;> rfl
@[simp] theorem State.setOsc_settings (s : State) (c : Chan) (o : Osc) : (s.setOsc c o).settings = s.settings := by
  cases c <;> rfl
@[simp] theorem State.setOsc_lfo (s : State) (c : Chan) (o : Osc) : (s.setOsc c o).lfo = s.lfo := by
  cases c <;> rfl
@[simp] theorem State.setOsc_hs (s : State) (c : Chan) (o : Osc) : (s.setOsc c o).hs = s.hs := by
  cases c <;> rfl
@[simp] theorem State.setOsc_irqMask (s : State) (c : Chan) (o : Osc) : (s.setOsc c o).irqMask = s.irqMask := by
  cases c <;> rfl
@[simp] theorem State.setOsc_input (s : State) (c : Chan) (o : Osc) : (s.setOsc c o).input = s.input := by
  cases c <;> rfl
@[simp] theorem State.setOsc_output (s : State) (c : Chan) (o : Osc) : (s.setOsc c o).output = s.output := by
  cases c <;> rfl
@[simp] theorem State.setOsc_timerPending (s : State) (c : Chan) (o : Osc) : (s.setOsc c o).timerPending = s.timerPending := by
  cases c <;> rfl
@[simp] theorem State.setOsc_trace (s : State) (c : Chan) (o : Osc) : (s.setOsc c o).trace = s.trace := by
  cases c <;> rfl
@[simp] theorem State.setOsc_gaps (s : State) (c : Chan) (o : Osc) : (s.setOsc c o).gaps = s.gaps := by
  cases c <;> rfl

/-! `osc` -/

@[simp] theorem State.osc_leader (s : State) : s.osc .leader = s.oscL := rfl
@[simp] theorem State.osc_follower (s : State) : s.osc .follower = s.oscF := rfl

/-! The port writes: everything each one does -/

theorem clearAdcReady_eq (s : State) :
    s.clearAdcReady = { s with input := { s.input with adcReady := false } } := rfl

theorem clearTap_eq (s : State) :
    s.clearTap = { s with input := { s.input with tapPending := false } } := rfl

theorem writeIrqMask_eq (s : State) (b : Bool) :
    s.writeIrqMask b = { s with irqMask := b, trace := s.trace ++ [.irqMask b] } := rfl

theorem writeHsOut_eq (s : State) (b : Bool) :
    s.writeHsOut b =
      { s with output := { s.output with hsOut := b }, trace := s.trace ++ [.hardSync b] } := rfl

theorem writeLedMode_eq (s : State) (b : Bool) :
    s.writeLedMode b =
      { s with output := { s.output with ledMode := b }, trace := s.trace ++ [.ledMode b] } := rfl

theorem writePeriod_leader_eq (s : State) (t : Period) :
    s.writePeriod .leader t =
      { s with
        output := { s.output with period0 := t }
        trace := s.trace ++ [.setPeriod .leader t] } := rfl

theorem writePeriod_follower_eq (s : State) (t : Period) :
    s.writePeriod .follower t =
      { s with
        output := { s.output with period1 := t }
        trace := s.trace ++ [.setPeriod .follower t] } := rfl

theorem writeDac_eq (s : State) (w0 w1 w2 w3 : DacWord) :
    s.writeDac w0 w1 w2 w3 =
      { s with
        output := { s.output with dac0 := w0, dac1 := w1, dac2 := w2, dac3 := w3 }
        trace := s.trace ++ [.dacWrite w0 w1 w2 w3] } := rfl

theorem consumeTap_eq (s : State) :
    consumeTap s =
      { s with
        hs := !s.hs
        input := { s.input with tapPending := false }
        output := { s.output with hsOut := !s.hs, ledMode := !s.hs }
        trace := s.trace ++ [.hardSync (!s.hs)] ++ [.ledMode (!s.hs)] } := rfl

/-- A channel's latch after a write to it. -/
@[simp] theorem AdcCodes.get_put_same (a : AdcCodes) (ch : AdcChannel) (c : Code) :
    (a.put ch c).get ch = c := by
  cases ch <;> rfl

/-- A channel's latch after a write to another. -/
theorem AdcCodes.get_put_other (a : AdcCodes) (ch ch' : AdcChannel) (c : Code) (h : ch' ≠ ch) :
    (a.put ch c).get ch' = a.get ch' := by
  cases ch <;> cases ch' <;> first | rfl | exact absurd rfl h

end Sys2Proof.Machine
end

