-- ==== Sys2Proof/Laws/Agents.lean ====
section
/-! SUPPORT. What the timer agent, one move and one gap can do. -/

namespace Sys2Proof.Machine

/-- The timer agent either does nothing, or serves its pending read unmasked. -/
theorem serveTimer_cases (s : State) :
    (serveTimer s = s ∧ (s.timerPending = false ∨ s.irqMask = true)) ∨
    (s.timerPending = true ∧ s.irqMask = false ∧
      serveTimer s =
        { s with
          timerPending := false
          trace := s.trace ++ [.timerRead s.output.period0 s.output.period1] }) := by
  unfold serveTimer
  cases hp : s.timerPending <;> cases hm : s.irqMask <;> simp [State.emit, State.setTimerPending, hm]

/-- A state that no occurrence is pending in is left as it is. -/
theorem serveTimer_of_idle {s : State} (h : s.timerPending = false) : serveTimer s = s := by
  simp [serveTimer, h]

@[simp] theorem serveTimer_stage (s : State) : (serveTimer s).stage = s.stage := by
  unfold serveTimer; split <;> rfl

@[simp] theorem serveTimer_irqMask (s : State) : (serveTimer s).irqMask = s.irqMask := by
  unfold serveTimer; split <;> rfl

@[simp] theorem serveTimer_gaps (s : State) : (serveTimer s).gaps = s.gaps := by
  unfold serveTimer; split <;> rfl

@[simp] theorem moveEffect_gaps (s : State) (m : AgentMove) : (moveEffect s m).gaps = s.gaps := by
  cases m <;> rfl

@[simp] theorem applyMove_gaps (s : State) (m : AgentMove) : (applyMove s m).gaps = s.gaps := by
  simp [applyMove]

theorem foldl_applyMove_gaps (ms : List AgentMove) (s : State) :
    (ms.foldl applyMove s).gaps = s.gaps := by
  induction ms generalizing s with
  | nil => rfl
  | cons m ms ih => simp [ih]

/-- A gap uses up its own moves and leaves the later ones. -/
@[simp] theorem runGap_gaps (s : State) : (runGap s).gaps = s.gaps.tail := by
  simp [runGap, applyMoves, foldl_applyMove_gaps]

/-! `hostReset` -/

@[simp] theorem State.hostReset_stage (s : State) (t : Settings) :
    (s.hostReset t).stage = 16#5 := rfl
@[simp] theorem State.hostReset_work (s : State) (t : Settings) :
    (s.hostReset t).work = .zero := rfl
@[simp] theorem State.hostReset_settings (s : State) (t : Settings) :
    (s.hostReset t).settings = t := rfl
@[simp] theorem State.hostReset_oscL (s : State) (t : Settings) :
    (s.hostReset t).oscL = .zero := rfl
@[simp] theorem State.hostReset_oscF (s : State) (t : Settings) :
    (s.hostReset t).oscF = .zero := rfl
@[simp] theorem State.hostReset_lfo (s : State) (t : Settings) :
    (s.hostReset t).lfo = ⟨0, 0⟩ := rfl
@[simp] theorem State.hostReset_hs (s : State) (t : Settings) :
    (s.hostReset t).hs = false := rfl
@[simp] theorem State.hostReset_irqMask (s : State) (t : Settings) :
    (s.hostReset t).irqMask = false := rfl
@[simp] theorem State.hostReset_input (s : State) (t : Settings) :
    (s.hostReset t).input = { s.input with adcReady := false, tapPending := false } := rfl
@[simp] theorem State.hostReset_output (s : State) (t : Settings) :
    (s.hostReset t).output = { s.output with hsOut := false, ledMode := false } := rfl
@[simp] theorem State.hostReset_timerPending (s : State) (t : Settings) :
    (s.hostReset t).timerPending = s.timerPending := rfl
@[simp] theorem State.hostReset_trace (s : State) (t : Settings) :
    (s.hostReset t).trace = [] := rfl
@[simp] theorem State.hostReset_gaps (s : State) (t : Settings) :
    (s.hostReset t).gaps = s.gaps := rfl

/-- The ADC agent's write of one latch: that channel reads the code, the others what they held. -/
@[simp] theorem AdcCodes.get_put (a : AdcCodes) (ch ch' : AdcChannel) (c : Code) :
    (a.put ch c).get ch' = if ch = ch' then c else a.get ch' := by
  cases ch <;> cases ch' <;> rfl

/-- Everything one move but a reset can do: its own effect on the input latches, the pending bit, and
one read of the committed periods where an occurrence is waiting unmasked. -/
theorem applyMove_eq (s : State) {m : AgentMove} (hm : m.isReset = false) :
    applyMove s m = { s with
      input := (moveEffect s m).input
      timerPending := s.irqMask && (s.timerPending || m == .timerDue)
      trace := s.trace ++ List.replicate
        (if !s.irqMask && (s.timerPending || m == .timerDue) then 1 else 0)
        (.timerRead s.output.period0 s.output.period1) } := by
  cases hp : s.timerPending <;> cases hk : s.irqMask <;> cases m <;>
    simp_all [AgentMove.isReset, applyMove, moveEffect, serveTimer, State.setInput,
      State.setTimerPending, State.emit]

/-- What every move keeps, every gap keeps: the induction over a gap's moves, once. -/
theorem runGap_preserves (P : State → Prop)
    (hg : ∀ s g, P s → P { s with gaps := g })
    (ht : ∀ s, P s → P (serveTimer s))
    (hm : ∀ s m, P s → P (moveEffect s m)) (s : State) (h : P s) : P (runGap s) := by
  have key : ∀ (ms : List AgentMove) (u : State), P u → P (ms.foldl applyMove u) := by
    intro ms
    induction ms with
    | nil => intro u hu; exact hu
    | cons m ms ih => intro u hu; exact ih _ (ht _ (hm _ _ hu))
  exact key _ _ (ht _ (hg _ _ h))

/-- A gap with no pending read and no move only moves on to the next gap. -/
theorem runGap_of_quiet {s : State} (hp : s.timerPending = false) (hg : s.gaps.headD [] = []) :
    runGap s = { s with gaps := s.gaps.tail } := by
  unfold runGap applyMoves
  rw [hg, serveTimer_of_idle (by exact hp)]
  rfl

/-- With no coming move and no pending read a gap changes nothing. -/
theorem runGap_of_still {s : State} (hp : s.timerPending = false) (hg : s.gaps = []) :
    runGap s = s := by
  rw [runGap_of_quiet hp (by simp [hg])]
  cases s; simp_all

end Sys2Proof.Machine
end

