-- ==== Sys2Proof/Laws/FixedPoint.lean ====
section
/-! SUPPORT. One lemma per fixed-point primitive: its raw integer is the one the rule's formula
gives (spec/40_fixed_point.md). Later proofs cite these and never unfold a primitive. -/

namespace Sys2Proof.Machine

theorem fix_toInt_bounds (a : Fix) : -2147483648 ≤ a.toInt ∧ a.toInt ≤ 2147483647 := by
  have h1 := BitVec.le_toInt a
  have h2 := BitVec.toInt_lt (x := a)
  norm_num at h1 h2
  omega

theorem refSat_bounds (x : Int) : -2147483648 ≤ refSat x ∧ refSat x ≤ 2147483647 := by
  unfold refSat; omega

theorem refSat_of_range {x : Int} (h1 : -2147483648 ≤ x) (h2 : x ≤ 2147483647) :
    refSat x = x := by
  unfold refSat; omega

theorem refSat_mono {x y : Int} (h : x ≤ y) : refSat x ≤ refSat y := by
  unfold refSat; omega

theorem toInt_ofInt_of_range {x : Int} (h1 : -2147483648 ≤ x) (h2 : x ≤ 2147483647) :
    (BitVec.ofInt 32 x).toInt = x := by
  rw [BitVec.toInt_ofInt, Int.bmod_def]
  norm_num
  omega

@[simp] theorem toInt_sat32 (x : Int) : (sat32 x).toInt = refSat x := by
  unfold sat32
  split
  · rw [show fixMax.toInt = 2147483647 by decide]; unfold refSat; omega
  · split
    · rw [show fixMin.toInt = -2147483648 by decide]; unfold refSat; omega
    · rw [toInt_ofInt_of_range (by omega) (by omega), refSat_of_range (by omega) (by omega)]

@[simp] theorem toInt_fxFromInt (n : Int) : (fxFromInt n).toInt = refFromInt n := toInt_sat32 _

@[simp] theorem toInt_fxAdd (a b : Fix) : (fxAdd a b).toInt = refAdd a.toInt b.toInt :=
  toInt_sat32 _

@[simp] theorem toInt_fxSub (a b : Fix) : (fxSub a b).toInt = refSub a.toInt b.toInt :=
  toInt_sat32 _

@[simp] theorem toInt_fxMul (a b : Fix) : (fxMul a b).toInt = refMul a.toInt b.toInt :=
  toInt_sat32 _

@[simp] theorem toInt_fxDiv (a b : Fix) : (fxDiv a b).toInt = refDiv a.toInt b.toInt := by
  unfold fxDiv refDiv roundedQuotient
  by_cases h0 : b.toInt = 0
  · simp only [h0, if_true]
    split <;> rfl
  · by_cases hp : b.toInt > 0
    · simp [h0, hp, not_lt.mpr (le_of_lt hp)]
    · have hn : b.toInt < 0 := by omega
      simp [h0, hp, hn]

@[simp] theorem toInt_fxAbs (a : Fix) : (fxAbs a).toInt = refAbs a.toInt := by
  have := fix_toInt_bounds a
  unfold fxAbs refAbs
  split
  · rw [abs_of_nonneg (by assumption), refSat_of_range this.1 this.2]
  · rw [abs_of_neg (by omega), toInt_sat32]

@[simp] theorem toInt_fxMin (a b : Fix) : (fxMin a b).toInt = min a.toInt b.toInt := by
  unfold fxMin; split <;> omega

@[simp] theorem toInt_fxMax (a b : Fix) : (fxMax a b).toInt = max a.toInt b.toInt := by
  unfold fxMax; split <;> omega

@[simp] theorem toInt_fxClamp (v lo hi : Fix) :
    (fxClamp v lo hi).toInt = max lo.toInt (min v.toInt hi.toInt) := by
  simp [fxClamp]

@[simp] theorem toInt_fxOne : fxOne.toInt = 65536 := by decide

@[simp] theorem toInt_fxZero : fxZero.toInt = 0 := by decide

@[simp] theorem toInt_pitchHi : pitchHi.toInt = 458752 := by decide

@[simp] theorem toInt_fxThousand : fxThousand.toInt = refFromInt 1000 := by decide

@[simp] theorem toInt_fxAdcMax : fxAdcMax.toInt = refFromInt 4095 := by decide

/-- A code is at most `ADC_MAX`. -/
theorem code_toNat_le (c : Code) : c.toNat ≤ 4095 := by
  have := c.isLt; omega

theorem toNat_inv_nat (c : Code) : (inv c).toNat = 4095 - c.toNat := by
  unfold inv
  rw [BitVec.toNat_ofNat, show adcMax.toNat = 4095 from rfl]
  omega

@[simp] theorem toNat_inv (c : Code) : ((inv c).toNat : Int) = refInv c.toNat := by
  have := code_toNat_le c
  rw [toNat_inv_nat]
  unfold refInv
  omega

@[simp] theorem toInt_norm (c : Code) : (norm c).toInt = refNorm c.toNat := by
  simp [norm, refNorm]

end Sys2Proof.Machine
end

