-- ==== Sys2Proof/Laws/Meanings.lean ====
section
/-! SUPPORT. Each meaning that only computes, as ONE update of the state's record: later proofs
rewrite with these and never unfold a meaning's chain of updates. -/

namespace Sys2Proof.Machine

theorem execInit_eq (s : State) :
    execInit s = .next { s with
      stage := 0#5
      oscL := initOsc s.settings .leader s.oscL
      oscF := initOsc s.settings .follower s.oscF } := by
  simp [execInit, State.setOsc, State.setStage, State.osc]

theorem execResl_eq (s : State) :
    execResl s = .next { s with stage := 2#5, work := { s.work with pl := leaderPitch s } } := by
  simp [execResl, State.setWork, State.setStage]

theorem execResf_eq (s : State) :
    execResf s = .next { s with
      stage := 3#5
      work := { s.work with pf := followerPitch s, follow := !followerOverrides s } } := by
  simp [execResf, State.setWork, State.setStage]

theorem execSmthl_eq (s : State) :
    execSmthl s = .next { s with
      stage := 4#5
      work := { s.work with sl := (smoothStep s.oscL s.work.pl).lp2 }
      oscL := smoothStep s.oscL s.work.pl } := by
  simp [execSmthl, State.setOsc, State.setWork, State.setStage, State.osc]

theorem execSmthf_eq (s : State) :
    execSmthf s = .next { s with
      stage := 5#5
      work := { s.work with sf := (smoothStep s.oscF s.work.pf).lp2 }
      oscF := smoothStep s.oscF s.work.pf } := by
  simp [execSmthf, State.setOsc, State.setWork, State.setStage, State.osc]

theorem execLfoadv_eq (s : State) :
    execLfoadv s = .next { s with
      stage := 6#5
      lfo := lfoAdvance (lfoK s.settings.chorusFrequency) s.lfo s.input.tickNow } := by
  simp [execLfoadv, State.setLfo, State.setStage, Settings.get]

theorem execLfomod_eq (s : State) :
    execLfomod s = .next { s with
      stage := 7#5
      work := { s.work with mod := modulation s, ff := fxAdd s.work.sf (modulation s) } } := by
  simp [execLfomod, State.setWork, State.setStage]

theorem execClamp_eq (s : State) :
    execClamp s = .next { s with
      stage := 9#5
      work := { s.work with cl := pitchClamp s.work.sl, cf := pitchClamp s.work.ff } } := by
  simp [execClamp, State.setWork, State.setStage]

theorem execDuty_eq (s : State) :
    execDuty s = .next { s with
      stage := 10#5
      work := { s.work with
        dutyL := dutyCode s.work.samples.pwmKnobL s.work.samples.pwmCvL
        dutyF := dutyCode s.work.samples.pwmKnobF s.work.samples.pwmCvF } } := by
  simp [execDuty, State.setWork, State.setStage, AdcCodes.get]

theorem execDacwr_eq (s : State) :
    execDacwr s = .next { s with
      stage := 0#5
      output := { s.output with
        dac0 := dacWord true s.oscL.dacCode, dac1 := dacWord false s.work.dutyL
        dac2 := dacWord true s.oscF.dacCode, dac3 := dacWord false s.work.dutyF }
      trace := s.trace ++ [.dacWrite (dacWord true s.oscL.dacCode) (dacWord false s.work.dutyL)
        (dacWord true s.oscF.dacCode) (dacWord false s.work.dutyF)] } := by
  simp [execDacwr, State.writeDac, State.setOutput, State.emit, State.setStage, State.osc]

end Sys2Proof.Machine
end

