-- ==== Sys2Proof/Laws/PerInstr.lean ====
section
/-! SUPPORT. The per-instruction family: every operation is well formed, its code is a legal stage
value, and the decoder reads the operation back from it. -/

namespace Sys2Proof.Laws

/-- An operation and its code (spec/30_encoding.md rule R81). -/
def EncodingAgrees.Statement (i : Instr) : Prop :=
  i.wellFormed = true ∧ legalStage (encode i) = true ∧ decode (encode i) = .ok i

theorem EncodingAgrees.poll : EncodingAgrees.Statement .poll := ⟨by decide, by decide, rfl⟩
theorem EncodingAgrees.resl : EncodingAgrees.Statement .resl := ⟨by decide, by decide, rfl⟩
theorem EncodingAgrees.resf : EncodingAgrees.Statement .resf := ⟨by decide, by decide, rfl⟩
theorem EncodingAgrees.smthl : EncodingAgrees.Statement .smthl := ⟨by decide, by decide, rfl⟩
theorem EncodingAgrees.smthf : EncodingAgrees.Statement .smthf := ⟨by decide, by decide, rfl⟩
theorem EncodingAgrees.lfoadv : EncodingAgrees.Statement .lfoadv := ⟨by decide, by decide, rfl⟩
theorem EncodingAgrees.lfomod : EncodingAgrees.Statement .lfomod := ⟨by decide, by decide, rfl⟩
theorem EncodingAgrees.hsync : EncodingAgrees.Statement .hsync := ⟨by decide, by decide, rfl⟩
theorem EncodingAgrees.clamp : EncodingAgrees.Statement .clamp := ⟨by decide, by decide, rfl⟩
theorem EncodingAgrees.duty : EncodingAgrees.Statement .duty := ⟨by decide, by decide, rfl⟩
theorem EncodingAgrees.lookup : EncodingAgrees.Statement .lookup := ⟨by decide, by decide, rfl⟩
theorem EncodingAgrees.irqoff : EncodingAgrees.Statement .irqoff := ⟨by decide, by decide, rfl⟩
theorem EncodingAgrees.setper0 : EncodingAgrees.Statement .setper0 := ⟨by decide, by decide, rfl⟩
theorem EncodingAgrees.setper1 : EncodingAgrees.Statement .setper1 := ⟨by decide, by decide, rfl⟩
theorem EncodingAgrees.irqon : EncodingAgrees.Statement .irqon := ⟨by decide, by decide, rfl⟩
theorem EncodingAgrees.dacwr : EncodingAgrees.Statement .dacwr := ⟨by decide, by decide, rfl⟩
theorem EncodingAgrees.init : EncodingAgrees.Statement .init := ⟨by decide, by decide, rfl⟩

end Sys2Proof.Laws
end

