-- ==== Sys2Proof/Laws/Step.lean ====
section
/-! SUPPORT. What one step can do. -/

namespace Sys2Proof.Machine

/-- A stage that decodes runs its operation. -/
theorem runStage_of_ok {s : State} {i : Instr} (h : decode s.stage = .ok i) :
    runStage s = exec i s := by
  simp [runStage, h]

/-- If the stage's operation answers a next state, the stage decodes and `exec` answers it. -/
theorem runStage_next {s t : State} (h : runStage s = .next t) :
    ∃ i, decode s.stage = .ok i ∧ exec i s = .next t := by
  unfold runStage at h
  split at h
  · exact ⟨_, by assumption, h⟩
  · cases h

/-- Everything a step that goes on can be: a gap, then one decoded operation. -/
theorem step_next {s t : State} (h : step s = .next t) :
    ∃ i, decode (runGap s).stage = .ok i ∧ exec i (runGap s) = .next t :=
  runStage_next h

/-- What every gap and every operation keeps, every step keeps. -/
theorem step_preserves (P : State → Prop) (hgap : ∀ s, P s → P (runGap s))
    (hop : ∀ i s t, decode s.stage = .ok i → P s → exec i s = .next t → P t)
    {s t : State} (hs : P s) (h : step s = .next t) : P t := by
  obtain ⟨i, hi, he⟩ := step_next h
  exact hop i _ t hi (hgap s hs) he

/-- A run of no step. -/
theorem core_run_zero (s : State) : Host.Core.run core 0 s = .next s := rfl

theorem run_succ_of_next (M : Host.Core) {s t : M.State} (h : M.step s = .next t) (k : Nat) :
    M.run (k + 1) s = M.run k t := by
  simp [Host.Core.run, h]

theorem next_of_run_succ (M : Host.Core) {s t : M.State} {k : Nat}
    (h : M.run (k + 1) s = .next t) : ∃ u, M.step s = .next u ∧ M.run k u = .next t := by
  cases hs : M.step s with
  | next u => exact ⟨u, rfl, by simpa [Host.Core.run, hs] using h⟩
  | fault r => simp [Host.Core.run, hs] at h
  | refused r => simp [Host.Core.run, hs] at h

/-- A run whose first step goes on is the run from there. -/
theorem core_run_succ {s t : State} (h : step s = .next t) (k : Nat) :
    Host.Core.run core (k + 1) s = Host.Core.run core k t :=
  run_succ_of_next core h k

/-- A run that goes on has a first step that does. -/
theorem core_run_succ_next {s t : State} {k : Nat}
    (h : Host.Core.run core (k + 1) s = .next t) :
    ∃ u, step s = .next u ∧ Host.Core.run core k u = .next t :=
  next_of_run_succ core h

end Sys2Proof.Machine
end

