-- ==== Sys2Proof/Tests/Slice0.lean ====
section
/-! SUPPORT. Tests of the model's own work. Expected values are those of spec/95_test_vectors.md (the
section is named at each test) unless a test says otherwise. The second half gives, for each
statement of Certificates/Slice0/Obligations.lean that has hypotheses, a concrete state and
operands that meet them. -/

namespace Sys2Proof.Tests

open Sys2Proof.Machine

/-! ### Helpers -/

/-- The test settings T1 (section 2). -/
def settingsT1 : Settings :=
  ⟨0x10000, 0x60000, 0xFFFF0000, 0x10000, 0xFFFE8000, 0x18000, 6, 0x8000, 0x1000, 0x2000,
   0x100000, 0, 0x10000⟩

/-- The state after `BOOT` under T1 (sections 2 and 7). -/
def booted : State :=
  { State.reset with
    stage := 0
    settings := settingsT1
    oscL := ⟨0, 0, 0x2000, 0x100000, 0x20000, 0, 0⟩
    oscF := ⟨0, 0, 0x2000, 0x100000, 0x30000, 0, 0⟩ }

/-- Booted, with these working registers. -/
def withWork (w : Work) : State := { booted with work := w }

/-- Booted, with these samples in the snapshot. -/
def withSamples (a : AdcCodes) : State := withWork { Work.zero with samples := a }

/-- Booted, with these input latches. -/
def withInput (x : Inputs) : State := { booted with input := x }

/-- Whether an outcome is a next state that satisfies `p`. -/
def next (o : Host.Outcome State Fault Refusal) (p : State → Bool) : Bool :=
  match o with
  | .next t => p t
  | .fault _ => false
  | .refused _ => false

/-- The reserved code a refusal names. -/
def refusedCode (o : Host.Outcome State Fault Refusal) : Option StageCode :=
  match o with
  | .refused (.reservedStage c) => some c
  | .refused (.notModelled _) => none
  | .next _ => none
  | .fault _ => none

/-! ### Well-formedness: each check refuses an ill-formed term -/

theorem test_wellFormed_all : Instr.all.all Instr.wellFormed = true := by decide

theorem test_legalStage_refuses_reserved :
    legalStage 16 = true ∧ legalStage 17 = false ∧ legalStage 31 = false := by decide

/-- 10_state.md rule R26: KNOB_MIN[F] above KNOB_MAX[F] is not valid. -/
theorem test_settings_valid_refuses :
    settingsT1.valid = true ∧
      Settings.valid { settingsT1 with knobMinF := 0x18001 } = false := by decide

/-- Rule R26: an initial gain above 1.0 is outside the recommended range. -/
theorem test_settings_recommended_refuses :
    settingsT1.recommended = true ∧
      Settings.recommended { settingsT1 with smoothInitialGain := 0x10001 } = false := by decide

/-! ### Decoding: the words of 30_encoding.md rule R81, written out bit by bit -/

theorem test_decode_poll : decodeTableWord 8 0b00000000 = some .poll := by decide
theorem test_decode_resl : decodeTableWord 8 0b00000001 = some .resl := by decide
theorem test_decode_resf : decodeTableWord 8 0b00000010 = some .resf := by decide
theorem test_decode_smthl : decodeTableWord 8 0b00000011 = some .smthl := by decide
theorem test_decode_smthf : decodeTableWord 8 0b00000100 = some .smthf := by decide
theorem test_decode_lfoadv : decodeTableWord 8 0b00000101 = some .lfoadv := by decide
theorem test_decode_lfomod : decodeTableWord 8 0b00000110 = some .lfomod := by decide
theorem test_decode_hsync : decodeTableWord 8 0b00000111 = some .hsync := by decide
theorem test_decode_clamp : decodeTableWord 8 0b00001000 = some .clamp := by decide
theorem test_decode_duty : decodeTableWord 8 0b00001001 = some .duty := by decide
theorem test_decode_lookup : decodeTableWord 8 0b00001010 = some .lookup := by decide
theorem test_decode_irqoff : decodeTableWord 8 0b00001011 = some .irqoff := by decide
theorem test_decode_setper0 : decodeTableWord 8 0b00001100 = some .setper0 := by decide
theorem test_decode_setper1 : decodeTableWord 8 0b00001101 = some .setper1 := by decide
theorem test_decode_irqon : decodeTableWord 8 0b00001110 = some .irqon := by decide
theorem test_decode_dacwr : decodeTableWord 8 0b00001111 = some .dacwr := by decide
theorem test_decode_init : decodeTableWord 8 0b00010000 = some .init := by decide

theorem test_decode_refuses_reserved :
    decodeTableWord 8 0b00010001 = none ∧ decodeTableWord 8 0b00011111 = none := by decide

/-- 30_encoding.md rule R87: the expansion of `PASS.DATA` is the codes 0 to 15 in order. -/
theorem test_passData_expansion :
    PseudoOp.passData.expand.map (fun i => (encode i).toNat) = List.range 16 := by decide

/-! ### Fixed point (section 3) -/

theorem test_fxMul_tie_up :
    fxMul 0x00000003 0x00008000 = 0x00000002 ∧ fxMul 0xFFFFFFFD 0x00008000 = 0xFFFFFFFF := by
  decide

theorem test_fxMul_saturates :
    fxMul 0x80000000 0x80000000 = 0x7FFFFFFF ∧ fxMul 0xFF380000 0x00C80000 = 0x80000000 := by
  decide

theorem test_fxDiv_signs :
    fxDiv 0xFFFF0000 0x00030000 = 0xFFFFAAAB ∧ fxDiv 0x00010000 0xFFFD0000 = 0xFFFFAAAB := by
  decide

theorem test_fxToInt_ties :
    fxToInt 0xFFFF8000 = 0 ∧ fxToInt 0xFFFF7FFF = -1 ∧ fxToInt 0x7FFFFFFF = 32768 := by decide

theorem test_norm : Machine.norm 2047 = 0x00007FF8 ∧ Machine.norm 4094 = 0x0000FFF0 := by decide

/-! ### One step of each operation (sections 4 to 7) -/

/-- Section 7: the nine codes, the flags and the stage. -/
theorem test_poll_data :
    next (exec .poll (withInput ⟨⟨1, 2, 3, 4, 5, 6, 7, 8, 9⟩, true, 0, true⟩)) (fun t =>
      t.work.samples == ⟨1, 2, 3, 4, 5, 6, 7, 8, 9⟩ && t.work.dv && !t.input.adcReady &&
        t.input.tapPending && t.stage == 1) = true := by decide

theorem test_poll_idle :
    next (exec .poll (withInput ⟨⟨1, 2, 3, 4, 5, 6, 7, 8, 9⟩, false, 0, true⟩)) (fun t =>
      t.work.samples == AdcCodes.zero && !t.work.dv && t.stage == 7) = true := by decide

/-- Section 4, rows F3 and F7. -/
theorem test_resl_mid :
    next (exec .resl (withSamples { AdcCodes.zero with cvL := 2048, knobL := 2048 }))
      (fun t => t.work.pl == 0x0003FFC0) = true := by decide

theorem test_resl_high :
    next (exec .resl (withSamples .zero)) (fun t => t.work.pl == 0x00080000) = true := by decide

/-- Section 4, rows F2 (equal to the threshold) and F4 (the first override code). -/
theorem test_resf_follow :
    next (exec .resf { withSamples { AdcCodes.zero with cvF := 4089, knobF := 4095 } with
      work := { Work.zero with
        samples := { AdcCodes.zero with cvF := 4089, knobF := 4095 }, pl := 0x00060000 } })
      (fun t => t.work.follow && t.work.pf == 0x00048000) = true := by decide

theorem test_resf_override :
    next (exec .resf (withWork { Work.zero with
      samples := { AdcCodes.zero with cvF := 4088, knobF := 4095 }, pl := 0x00060000 }))
      (fun t => !t.work.follow && t.work.pf == 0xFFFF82A0) = true := by decide

/-- Section 5, rows 7 and 4. -/
theorem test_smthl_step :
    next (exec .smthl { withWork { Work.zero with pl := 0xFFFF8000 } with
      oscL := ⟨0x60000, 0x60000, 0x2000, 0x100000, 0, 0, 0⟩ })
      (fun t => t.oscL.lp1 == 0x00053000 && t.work.sl == 0x0005E600 && t.oscF == booted.oscF)
      = true := by decide

theorem test_smthf_adaptive :
    next (exec .smthf { withWork { Work.zero with pf := 0x00040000 } with
      oscF := ⟨0x8000, 0x1000, 0x2000, 0x8000, 0, 0, 0⟩ })
      (fun t => t.oscF.lp1 == 0x0001B400 && t.work.sf == 0x0000A060 && t.oscL == booted.oscL)
      = true := by decide

/-- Section 5, the stall row of 90_conflicts.md C6: 3 LSB away the filter does not move. -/
theorem test_smthl_stall :
    next (exec .smthl { withWork { Work.zero with pl := 0x00010003 } with
      oscL := ⟨0x10000, 0x10000, 0x2000, 0x100000, 0, 0, 0⟩ })
      (fun t => t.oscL.lp1 == 0x00010000 && t.work.sl == 0x00010000) = true := by decide

/-- Section 6, rows A5 (tick wrap) and A9 (a backwards tick). -/
theorem test_lfoadv_tick_wrap :
    next (exec .lfoadv { booted with
      lfo := ⟨0x1234, 0xFFFFFFF0⟩, input := { booted.input with tickNow := 0x10 } })
      (fun t => t.lfo == ⟨0x1654, 0x10⟩ && t.stage == 6) = true := by decide

theorem test_lfoadv_backwards :
    next (exec .lfoadv { booted with
      lfo := ⟨0x0064, 5⟩, input := { booted.input with tickNow := 4 } })
      (fun t => t.lfo == ⟨0x0043, 4⟩) = true := by decide

/-- Section 6, the sixth LFOMOD row. -/
theorem test_lfomod :
    next (exec .lfomod { withWork { Work.zero with
      samples := { AdcCodes.zero with lfoKnob := 1000 }, sf := 0x00020000 } with
      lfo := ⟨0x1234, 0⟩ })
      (fun t => t.work.mod == 0x000001B8 && t.work.ff == 0x000201B8 && t.work.sf == 0x00020000)
      = true := by decide

/-- Section 6, HSYNC rows 4 and 1. -/
theorem test_hsync_tap :
    next (exec .hsync { withWork { Work.zero with dv := true } with
      hs := true, input := { booted.input with tapPending := true } })
      (fun t => !t.hs && !t.input.tapPending && t.stage == 8 &&
        t.trace == [.hardSync false, .ledMode false]) = true := by decide

theorem test_hsync_no_tap :
    next (exec .hsync booted) (fun t => !t.hs && t.stage == 0 && t.trace == []) = true := by decide

/-- Section 6, CLAMP: below, above and at the rail. -/
theorem test_clamp :
    next (exec .clamp (withWork { Work.zero with sl := 0xFFFF828F, ff := 0x00070001 }))
      (fun t => t.work.cl == 0 && t.work.cf == 0x00070000 && t.work.sl == 0xFFFF828F) = true := by
  decide

/-- Section 6, DUTY: the sum 8190 saturates, and (2048, 2048) gives 4094. -/
theorem test_duty :
    next (exec .duty (withSamples { AdcCodes.zero with pwmKnobF := 2048, pwmCvF := 2048 }))
      (fun t => t.work.dutyL == 4095 && t.work.dutyF == 4094) = true := by decide

/-- 45_output_commit.md rule R203: each oscillator gets the entry of its own voltage. -/
theorem test_lookup_own_voltage :
    exec .lookup (withWork { Work.zero with cl := 0x1800, cf := 0x48800 }) =
      .next { withWork { Work.zero with cl := 0x1800, cf := 0x48800 } with
        stage := 11
        oscL := { booted.oscL with
          period := (Config.lookup 0x1800).period, dacCode := (Config.lookup 0x1800).dacCode }
        oscF := { booted.oscF with
          period := (Config.lookup 0x48800).period, dacCode := (Config.lookup 0x48800).dacCode } } :=
  rfl

theorem test_irqoff :
    next (exec .irqoff booted) (fun t => t.irqMask && t.stage == 12 && t.trace == [.irqMask true])
      = true := by decide

/-- Program P1: the leader's period to channel 0, the follower's to channel 1. -/
theorem test_setper0 :
    next (exec .setper0 { booted with
      oscL := { booted.oscL with period := 0x7E800 }, oscF := { booted.oscF with period := 0x7EDD7 } })
      (fun t => t.output.period0 == 0x7E800 && t.output.period1 == 0 &&
        t.trace == [.setPeriod .leader 0x7E800]) = true := by decide

theorem test_setper1 :
    next (exec .setper1 { booted with
      oscL := { booted.oscL with period := 0x7E800 }, oscF := { booted.oscF with period := 0x7EDD7 } })
      (fun t => t.output.period1 == 0x7EDD7 && t.output.period0 == 0 &&
        t.trace == [.setPeriod .follower 0x7EDD7]) = true := by decide

theorem test_irqon :
    next (exec .irqon { booted with irqMask := true })
      (fun t => !t.irqMask && t.stage == 15 && t.trace == [.irqMask false]) = true := by decide

/-- Section 6, DACWR word packing; the order of program P1. -/
theorem test_dacwr :
    next (exec .dacwr { withWork { Work.zero with dutyL := 2190, dutyF := 4095 } with
      oscL := { booted.oscL with dacCode := 54 }, oscF := { booted.oscF with dacCode := 2650 } })
      (fun t => t.output.dac0 == 0x1036 && t.output.dac2 == 0x1A5A && t.stage == 0 &&
        t.trace == [.dacWrite 0x1036 0x088E 0x1A5A 0x0FFF]) = true := by decide

/-- Section 2: what INIT derives under T1. -/
theorem test_init :
    next (exec .init { State.reset with settings := settingsT1 })
      (fun t => t.oscL == booted.oscL && t.oscF == booted.oscF && t.stage == 0) = true := by decide

/-- Section 7: the knob range saturates. -/
theorem test_init_saturates :
    next (exec .init { State.reset with
      settings := { settingsT1 with knobMaxL := 0x7FFFFFFF, knobMinL := 0x80000000 } })
      (fun t => t.oscL.knobRange == 0x7FFFFFFF) = true := by decide

/-! ### Steps -/

/-- Out of reset the first step runs INIT (10_state.md rule R34). -/
theorem test_step_from_reset : step State.reset = exec .init State.reset := rfl

/-- A reset that loads T1, then INIT (70_reset_and_hazards.md rule R287). -/
theorem test_step_reset_loads :
    next (step { booted with gaps := [[.reset settingsT1]], hs := true }) (fun t =>
      t.oscL == booted.oscL && t.settings == settingsT1 && !t.hs && t.stage == 0) = true := by
  decide

/-- 70_reset_and_hazards.md rule R282 (d): a reset taken in HardSync releases with sync disabled and
the normal animation, without a notification, and leaves the period registers. -/
theorem test_reset_disables_sync :
    let o : Outputs := { State.reset.output with period0 := 5, hsOut := true, ledMode := true }
    next (step { booted with gaps := [[.reset settingsT1]], hs := true, output := o }) (fun t =>
      t.output == { o with hsOut := false, ledMode := false } && t.trace == []) = true := by
  decide

/-- A placed operation runs, and a reserved code is refused (30_encoding.md rule R84). -/
theorem test_placed_runs :
    next (step (State.reset.withFetchWord 8 11)) (fun t => t.irqMask && t.stage == 12) = true := by
  decide

theorem test_reserved_refused :
    refusedCode (step { booted with stage := 17 }) = some 17 ∧
      refusedCode (step { booted with stage := 31 }) = some 31 := by decide

/-- 60_exceptions.md rule R254: due twice while masked, read once after IRQON, both periods new. -/
theorem test_timer_collapses_and_waits :
    (runGap { booted with irqMask := true, gaps := [[.timerDue, .timerDue]] }).trace = [] ∧
      (runGap { booted with timerPending := true, output := { booted.output with period0 := 5 } }).trace
        = [.timerRead 5 0] := by decide

/-! ### Witnesses of the statements' hypotheses -/

theorem witness_StepRunsTheDecodedOperation :
    decode (runGap State.reset).stage = .ok .init ∧ noResetNext State.reset ∧
      State.reset.gaps = [] ∧ State.reset.timerPending = false := by
  refine ⟨rfl, ?_, rfl, rfl⟩
  simp [noResetNext, State.reset]

theorem witness_PlacedOperationRunsNext :
    decodeTableWord 8 0 = some .poll ∧ decodeTableWord 8 16 = some .init ∧
      State.reset.timerPending = false := by decide

theorem witness_DecoderIsTheOperationTable :
    17 ≤ (17#5).toNat ∧ 17 ≤ (31#5).toNat ∧ decode 16#5 = .ok .init := ⟨by decide, by decide, rfl⟩

theorem witness_ReservedStageIsRefused :
    17 ≤ (runGap { booted with stage := 17 }).stage.toNat ∧
      17 ≤ (runGap { booted with stage := 31 }).stage.toNat ∧
      ∃ t, exec .init booted = .next t := ⟨by decide, by decide, _, rfl⟩

/-- At and beside the ends of both ranges. -/
theorem witness_PortIndexMaps :
    AdcChannel.ofIndex 8 = some .lfoKnob ∧ AdcChannel.ofIndex 9 = none ∧
      SettingReg.ofIndex 12 = some .knobCalGain ∧ SettingReg.ofIndex 13 = none := by decide

theorem witness_ResetMoveStartsANewRun :
    State.gaps { booted with gaps := [[.reset settingsT1], []], hs := true } =
        [.reset settingsT1] :: [[]] ∧ booted.timerPending = false := by decide

theorem witness_PollSnapshotsFreshData :
    (withInput ⟨.zero, true, 0, false⟩).input.adcReady = true ∧ booted.input.adcReady = false := by
  decide

theorem witness_HsyncTogglesOnATap :
    (withInput ⟨.zero, false, 0, true⟩).input.tapPending = true ∧
      booted.input.tapPending = false := by decide

/-- Both ends of the range without saturation, and a product on each side of it. -/
theorem witness_MultiplyRoundsToNearest :
    (-140737488388096 ≤ (0x80000001 : Fix).toInt * (0x00010000 : Fix).toInt ∧
      (0x80000001 : Fix).toInt * (0x00010000 : Fix).toInt < 140737488322560) ∧
    (0x80000000 : Fix).toInt * (0x00010001 : Fix).toInt < -140737488388096 ∧
    140737488322560 ≤ (0x7FFFFFFF : Fix).toInt * (0x00010001 : Fix).toInt := by decide

/-- The largest dividend over 1.0, the divisor FIX_MIN, a quotient on each side of the range (one of
them FIX_MIN over -1.0), two negated pairs, a zero divisor. -/
theorem witness_DivideRoundsToNearest :
    (-4294967296 * (0x00010000 : Fix).toInt ≤
        131072 * (0x7FFFFFFF : Fix).toInt + (0x00010000 : Fix).toInt ∧
      131072 * (0x7FFFFFFF : Fix).toInt + (0x00010000 : Fix).toInt <
        4294967296 * (0x00010000 : Fix).toInt) ∧
    (0 < -(0x80000000 : Fix).toInt ∧
      131072 * -(0x80000000 : Fix).toInt + -(0x80000000 : Fix).toInt <
        4294967296 * -(0x80000000 : Fix).toInt) ∧
    131072 * (0x80000000 : Fix).toInt + (0x0000FFFF : Fix).toInt <
      -4294967296 * (0x0000FFFF : Fix).toInt ∧
    (0 < -(0xFFFF0000 : Fix).toInt ∧ 4294967296 * -(0xFFFF0000 : Fix).toInt ≤
      131072 * -(0x80000000 : Fix).toInt + -(0xFFFF0000 : Fix).toInt) ∧
    ((0xFFFF0000 : Fix).toInt = -(0x00010000 : Fix).toInt ∧
      (0xFFFD0000 : Fix).toInt = -(0x00030000 : Fix).toInt ∧ (0x00030000 : Fix).toInt ≠ 0) ∧
    (0 : Fix).toInt = 0 := by decide

theorem witness_ArithmeticIsMonotone :
    (0x80000000 : Fix).toInt ≤ (0x7FFFFFFF : Fix).toInt ∧ 0 < (0x00000001 : Fix).toInt := by decide

theorem witness_ArithmeticIsExactWhereStated :
    (-32767 ≤ (32767 : Int) ∧ (32767 : Int) ≤ 32767) ∧ (0x80000000 : Fix) ≠ fxZero ∧
    (-2147483648 ≤ (0x7FFFFFFF : Fix).toInt + (0 : Fix).toInt ∧
      (0x7FFFFFFF : Fix).toInt + (0 : Fix).toInt ≤ 2147483647) ∧
    (-2147483648 ≤ (0x80000000 : Fix).toInt - (0 : Fix).toInt ∧
      (0x80000000 : Fix).toInt - (0 : Fix).toInt ≤ 2147483647) := by decide

theorem witness_NormMapsCodesToTheUnitInterval : (4094 : Code).toNat ≤ (4095 : Code).toNat := by
  decide

/-- At the threshold itself. -/
theorem witness_FollowModeTracksTheLeader :
    (inv (withSamples { AdcCodes.zero with cvF := 4089 }).work.samples.cvF).toNat ≤
      (withSamples { AdcCodes.zero with cvF := 4089 }).settings.followerThreshold.toNat % 4096 := by
  decide

/-- Two states in override that differ in the leader's samples and pitch. -/
theorem witness_OverrideIgnoresTheLeader :
    let s : State := { withWork { Work.zero with
      samples := { AdcCodes.zero with cvF := 4088 }, pl := 0x60000 } with stage := 2 }
    let s' : State := { withWork { Work.zero with
      samples := { AdcCodes.zero with cvL := 2048, cvF := 4088 }, pl := 0x3FFC0 } with stage := 2 }
    s.stage = 2#5 ∧ s'.stage = 2#5 ∧ ParametersFromSettings s ∧ ParametersFromSettings s' ∧
      s.settings = s'.settings ∧ s.work.samples.cvF = s'.work.samples.cvF ∧
      s.work.samples.knobF = s'.work.samples.knobF ∧
      s.settings.followerThreshold.toNat % 4096 < (inv s.work.samples.cvF).toNat := by
  refine ⟨rfl, rfl, fun _ c => ?_, fun _ c => ?_, rfl, rfl, rfl, by decide⟩ <;>
    cases c <;> exact ⟨rfl, rfl, by decide⟩

theorem witness_LeaderPitchRange :
    booted.settings.knobCalOffset = fxZero ∧ booted.settings.knobCalGain = fxOne ∧
    0 ≤ booted.settings.cvInputRange.toInt ∧
    booted.settings.knobMinL.toInt ≤ booted.settings.knobMaxL.toInt ∧
    booted.oscL.knobRange = fxSub booted.settings.knobMaxL booted.settings.knobMinL ∧
    booted.settings.knobMaxL.toInt - booted.settings.knobMinL.toInt ≤ 2147483647 ∧
    booted.settings.cvBaseOffset.toInt + booted.settings.cvInputRange.toInt ≤ 2147483647 ∧
    -2147483648 ≤ booted.settings.cvBaseOffset.toInt + booted.settings.knobMinL.toInt ∧
    booted.settings.cvBaseOffset.toInt + booted.settings.cvInputRange.toInt +
      booted.settings.knobMaxL.toInt ≤ 2147483647 := by decide

/-- The gain at both ends of its range, with and without sensitivity. -/
theorem witness_GainAdaptsBetweenItsBounds :
    (0 < (Osc.g0 ⟨9, 4, 1, 0, 0, 0, 0⟩).toInt ∧ (Osc.g0 ⟨9, 4, 1, 0, 0, 0, 0⟩).toInt ≤ 65536 ∧
      0 ≤ (Osc.sens ⟨9, 4, 1, 0, 0, 0, 0⟩).toInt ∧ Osc.sens ⟨9, 4, 1, 0, 0, 0, 0⟩ = fxZero ∧
      (Osc.sens ⟨9, 4, 1, 0, 0, 0, 0⟩).toInt ≤ (0x100000 : Fix).toInt) ∧
    (0 < (Osc.g0 ⟨0, 0, 0x10000, 1, 0, 0, 0⟩).toInt ∧
      (Osc.g0 ⟨0, 0, 0x10000, 1, 0, 0, 0⟩).toInt ≤ 65536 ∧
      0 ≤ (Osc.sens ⟨0, 0, 0x10000, 1, 0, 0, 0⟩).toInt) := by decide

theorem witness_StageNeverOvershoots :
    0 ≤ (0 : Fix).toInt ∧ (0 : Fix).toInt ≤ 65536 ∧ (0 : Fix).toInt ≤ (0x10000 : Fix).toInt ∧
      (0x10000 : Fix).toInt ≤ 65536 := by decide

/-- Inside the stall band and just outside it (section 5). -/
theorem witness_StallBand :
    (0 < (0x2000 : Fix).toInt ∧ (0x2000 : Fix).toInt ≤ 65536 ∧
      -2147483648 ≤ (0x10003 : Fix).toInt - (0x10000 : Fix).toInt ∧
      (0x10003 : Fix).toInt - (0x10000 : Fix).toInt ≤ 2147483647) ∧
    stageToward 0x2000 0x10003 0x10000 = 0x10000 ∧
    stageToward 0x2000 0x10004 0x10000 ≠ 0x10000 := by decide

theorem witness_FixedPointIsNearTheTarget :
    0 < (Osc.g0 ⟨0x10000, 0x10000, 0x2000, 0x100000, 0, 0, 0⟩).toInt ∧
      smoothStep ⟨0x10000, 0x10000, 0x2000, 0x100000, 0, 0, 0⟩ 0x10003 =
        ⟨0x10000, 0x10000, 0x2000, 0x100000, 0, 0, 0⟩ := by decide

theorem witness_FilterReachesAFixedPoint :
    0 < (booted.osc .leader).g0.toInt ∧ (booted.osc .leader).g0.toInt ≤ 65536 ∧
      0 ≤ (booted.osc .leader).sens.toInt := by decide

theorem witness_PhaseIncrementPerTick :
    0 ≤ (499 : Fix).toInt ∧ lfoK 499 = 0 ∧ lfoK 500 = 1 ∧ lfoK 0x7FFFFFFF ≠ 0 := by decide

theorem witness_TriangleIsUnipolar :
    (0x7FFF : Phase).toNat < 32768 ∧ 32768 ≤ (0x8000 : Phase).toNat ∧
      tri 0x7FFF = 0x0000FFFE ∧ tri 0x8000 = 0x00010000 := by decide

theorem witness_ModulationNeverExceedsTheIntensity :
    0 ≤ booted.settings.chorusMaxIntensity.toInt ∧
      (withSamples { AdcCodes.zero with lfoKnob := 4095 }).work.samples.lfoKnob = 4095#12 := by
  decide

/-- A gap with a tap, a ready signal and a timer occurrence, unmasked and masked. -/
def busy (masked : Bool) : State :=
  { booted with
    irqMask := masked
    timerPending := true
    gaps := [[.tap, .adcReady, .timerDue, .tick 3], [.reset settingsT1]] }

/-- Two codes for one channel: the last one stays; the tick count wraps. -/
theorem witness_AgentsLeaveTheBlockAlone :
    noResetNext (busy false) ∧
      codeAfter .cvF 9 [.adcCode .cvF 1, .adcCode .cvL 5, .tap, .adcCode .cvF 2] = 2 ∧
      (runGap { booted with
        input := { booted.input with tickNow := 0xFFFFFFFF }
        gaps := [[.tick 3, .tick 1]] }).input.tickNow = 3 := by
  refine ⟨?_, by decide, by decide⟩
  simp [noResetNext, busy, AgentMove.isReset]

theorem witness_MaskedTimerReadsAreDeferred :
    noResetNext (busy true) ∧ (busy true).irqMask = true ∧ noResetNext (busy false) ∧
      (busy false).irqMask = false ∧ (busy false).timerPending = true := by
  refine ⟨?_, rfl, ?_, rfl, rfl⟩ <;> simp [noResetNext, busy, AgentMove.isReset]

theorem witness_SetsAreNeverLost :
    noResetNext (busy true) ∧ (runGap (busy true)).input.tapPending = true := by
  refine ⟨?_, by decide⟩
  simp [noResetNext, busy, AgentMove.isReset]

theorem witness_LaterSamplesDoNotTouchThePass : Instr.resl ≠ .poll := by decide

theorem witness_ToggleDoesNotFeedThePitch : Instr.resl ≠ .hsync := by decide

/-- A state in the middle of a commit, one tap and ten ticks into a run, with a timer read before
the mask was set. -/
def midCommit : State :=
  { booted with
    stage := 13
    oscL := { booted.oscL with period := 0x7E800 }
    lfo := ⟨0x014A, 10⟩
    hs := true
    irqMask := true
    output := { booted.output with
      period0 := 0x7E800, period1 := 7, hsOut := true, ledMode := true }
    trace := [.hardSync true, .ledMode true, .timerRead 5 7, .irqMask true,
      .setPeriod .leader 0x7E800] }

theorem witness_EveryStepKeepsTheAtomicCommit :
    AtomicCommit midCommit ∧ step midCommit = exec .setper1 midCommit :=
  ⟨⟨(5, 7), by decide, by decide, by decide, fun h => absurd rfl h, rfl⟩, rfl⟩

theorem witness_EveryStepKeepsTheSyncParity :
    SyncFollowsTaps midCommit ∧ ∃ t, step midCommit = .next t :=
  ⟨⟨by decide, fun _ => rfl, fun _ => rfl⟩, _, rfl⟩

theorem witness_EveryStepKeepsThePhaseLaw :
    PhaseTracksTick midCommit ∧ ∃ t, step midCommit = .next t := ⟨by unfold PhaseTracksTick; decide, _, rfl⟩

theorem witness_EveryStepKeepsTheParameters :
    ParametersFromSettings midCommit ∧ ∃ t, step midCommit = .next t := by
  refine ⟨fun _ c => ?_, _, rfl⟩
  cases c <;> exact ⟨rfl, rfl, by decide⟩

/-- At LOOKUP, with one voltage at each end of the table's range. -/
theorem witness_EveryLookupArgumentIsInRange :
    let s : State := { withWork { Work.zero with cl := 0x70000, cf := 0 } with stage := 10 }
    LookupArgumentsInRange s ∧ decode (runGap s).stage = .ok .lookup ∧ ∃ t, step s = .next t := by
  refine ⟨fun _ => ⟨?_, ?_⟩, rfl, _, rfl⟩ <;> unfold inTableRange <;> decide

theorem witness_EveryRunKeepsTheInvariants :
    Invariant midCommit ∧ ∃ t, Host.Core.run core 1 midCommit = .next t where
  left :=
    { legal := rfl
      commit := witness_EveryStepKeepsTheAtomicCommit.1
      sync := witness_EveryStepKeepsTheSyncParity.1
      phase := witness_EveryStepKeepsThePhaseLaw.1
      parameters := witness_EveryStepKeepsTheParameters.1
      range := fun h => by rcases h with h | h <;> cases h }
  right := ⟨_, rfl⟩

theorem witness_NoRunEverStops : StageLegal State.reset ∧ StageLegal booted := ⟨rfl, rfl⟩

/-- Timer occurrences due in every gap of the critical section. -/
theorem witness_CriticalSectionAdmitsNoTimerRead :
    let s : State := { booted with stage := 11, gaps := List.replicate 4 [.timerDue, .timerDue] }
    s.stage = 11#5 ∧ ∀ g ∈ s.gaps.take 4, ∀ m ∈ g, m.isReset = false := by
  refine ⟨rfl, ?_⟩
  decide

/-- An idle run with a tap in its first gap. -/
theorem witness_IdlePassesTouchOnlyTheTap :
    let s : State := { booted with gaps := [[.tap, .tick 1], [.adcCode .cvL 7]] }
    s.stage = 0#5 ∧ s.input.adcReady = false ∧
      ∀ g ∈ s.gaps, ∀ m ∈ g, m ≠ .adcReady ∧ m.isReset = false := by
  refine ⟨rfl, rfl, ?_⟩
  decide

/-- In the HSYNC of an idle pass, a tap waiting and a timer occurrence due in the gap. -/
theorem witness_EveryStepKeepsAwaitingData :
    let s : State := { booted with
      stage := 7, input := { booted.input with tapPending := true }, gaps := [[.timerDue]] }
    AwaitsData s ∧ ∃ t, step s = .next t := by
  refine ⟨⟨.inr ⟨rfl, rfl⟩, rfl, ?_⟩, _, rfl⟩
  decide

/-- With fresh data and a tap, and without. -/
theorem witness_PassIsTheReferencePass :
    let s : State := withInput ⟨.zero, true, 10, true⟩
    (s.stage = 0#5 ∧ s.irqMask = false ∧ s.gaps = [] ∧ s.timerPending = false ∧
      s.input.adcReady = true) ∧ booted.input.adcReady = false := by
  decide

end Sys2Proof.Tests
end

section
/-! PROOFS. The family of spec/10_state.md: who owns which part of the state, and what reset leaves.
First what a gap without a reset can do to a state, and what its latches then hold. -/

namespace Sys2Proof.Machine

/-- The state with what external agents write between two operations replaced: the input latches, the
pending bit, and `n` further reads of the committed periods (10_state.md rule R20, 20_memory.md rule
R65). -/
def State.agentUpdate (s : State) (x : Inputs) (p : Bool) (n : Nat) : State :=
  { s with
    input := x
    timerPending := p
    trace := s.trace ++ List.replicate n (.timerRead s.output.period0 s.output.period1) }

@[simp] theorem State.agentUpdate_stage (s : State) (x : Inputs) (p : Bool) (n : Nat) :
    (s.agentUpdate x p n).stage = s.stage := rfl

@[simp] theorem State.agentUpdate_irqMask (s : State) (x : Inputs) (p : Bool) (n : Nat) :
    (s.agentUpdate x p n).irqMask = s.irqMask := rfl

theorem State.agentUpdate_self (s : State) : s.agentUpdate s.input s.timerPending 0 = s := by
  simp [State.agentUpdate]

theorem State.agentUpdate_agentUpdate (s : State) (x y : Inputs) (p q : Bool) (n k : Nat) :
    (s.agentUpdate x p n).agentUpdate y q k = s.agentUpdate y q (n + k) := by
  simp [State.agentUpdate]

/-- `t` is `s` after some moves of the external agents, none of them a reset; they read the committed
periods only where `irq_mask` is 0 (20_memory.md rules R64 and R65). -/
def AgentsReach (s t : State) : Prop :=
  ∃ (x : Inputs) (p : Bool) (n : Nat), (n ≠ 0 → s.irqMask = false) ∧ t = s.agentUpdate x p n

theorem AgentsReach.refl (s : State) : AgentsReach s s :=
  ⟨s.input, s.timerPending, 0, by simp, s.agentUpdate_self.symm⟩

theorem AgentsReach.trans {s t u : State} (hst : AgentsReach s t) (htu : AgentsReach t u) :
    AgentsReach s u := by
  obtain ⟨x, p, n, hn, rfl⟩ := hst
  obtain ⟨y, q, k, hk, rfl⟩ := htu
  rw [State.agentUpdate_irqMask] at hk
  refine ⟨y, q, n + k, fun h => ?_, s.agentUpdate_agentUpdate x y p q n k⟩
  by_cases h0 : n = 0
  · exact hk (by omega)
  · exact hn h0

theorem AgentsReach.serveTimer (s : State) : AgentsReach s (serveTimer s) := by
  obtain ⟨h, -⟩ | ⟨-, hm, h⟩ := serveTimer_cases s
  · rw [h]
    exact .refl s
  · exact ⟨s.input, false, 1, fun _ => hm, h⟩

theorem AgentsReach.applyMove (s : State) {m : AgentMove} (hm : m.isReset = false) :
    AgentsReach s (applyMove s m) := by
  refine ⟨_, _, _, fun h => ?_, applyMove_eq s hm⟩
  by_contra hk
  simp [hk] at h

theorem AgentsReach.foldl_applyMove {ms : List AgentMove} (hms : ∀ m ∈ ms, m.isReset = false)
    (s : State) : AgentsReach s (ms.foldl Machine.applyMove s) := by
  induction ms generalizing s with
  | nil => exact .refl s
  | cons m ms ih =>
    have hhead := AgentsReach.applyMove s (hms m List.mem_cons_self)
    exact hhead.trans (ih (fun m' h => hms m' (List.mem_cons_of_mem m h)) _)

/-- Everything a gap without a reset can do, its moves taken off the list of gaps. -/
theorem AgentsReach.runGap {s : State} (h : noResetNext s) :
    AgentsReach { s with gaps := s.gaps.tail } (runGap s) :=
  (AgentsReach.serveTimer _).trans (.foldl_applyMove h _)

/-! The input latches after the moves of a gap -/

@[simp] theorem serveTimer_input (s : State) : (serveTimer s).input = s.input := by
  unfold serveTimer; split <;> rfl

@[simp] theorem applyMove_input (s : State) (m : AgentMove) :
    (applyMove s m).input = (moveEffect s m).input := serveTimer_input _

theorem codeAfter_cons (ch : AdcChannel) (c : Code) (m : AgentMove) (ms : List AgentMove) :
    codeAfter ch c (m :: ms) = codeAfter ch (codeAfter ch c [m]) ms := by
  cases m <;> rfl

theorem ticksIn_cons (m : AgentMove) (ms : List AgentMove) :
    ticksIn (m :: ms) = ticksIn [m] + ticksIn ms := by
  cases m <;> simp [ticksIn]

theorem applyMove_adcCode_get (s : State) (m : AgentMove) (ch : AdcChannel) :
    (applyMove s m).input.adcCode.get ch = codeAfter ch (s.input.adcCode.get ch) [m] := by
  cases m <;> simp [moveEffect, codeAfter]

theorem applyMove_tickNow (s : State) (m : AgentMove) :
    (applyMove s m).input.tickNow = s.input.tickNow + BitVec.ofNat 32 (ticksIn [m]) := by
  cases m <;> simp [moveEffect, ticksIn]

theorem foldl_applyMove_adcCode_get (ms : List AgentMove) (s : State) (ch : AdcChannel) :
    (ms.foldl applyMove s).input.adcCode.get ch = codeAfter ch (s.input.adcCode.get ch) ms := by
  induction ms generalizing s with
  | nil => rfl
  | cons m ms ih => rw [List.foldl_cons, ih, applyMove_adcCode_get, ← codeAfter_cons]

theorem foldl_applyMove_tickNow (ms : List AgentMove) (s : State) :
    (ms.foldl applyMove s).input.tickNow = s.input.tickNow + BitVec.ofNat 32 (ticksIn ms) := by
  induction ms generalizing s with
  | nil => simp [ticksIn]
  | cons m ms ih =>
    rw [List.foldl_cons, ih, applyMove_tickNow, ticksIn_cons m ms, BitVec.ofNat_add, BitVec.add_assoc]

/-- A sample latch after a gap, a reset among its moves or not. -/
theorem runGap_adcCode_get (s : State) (ch : AdcChannel) :
    (runGap s).input.adcCode.get ch =
      codeAfter ch (s.input.adcCode.get ch) (s.gaps.headD []) := by
  simp [runGap, applyMoves, foldl_applyMove_adcCode_get]

/-- The tick count after a gap, a reset among its moves or not. -/
theorem runGap_tickNow (s : State) :
    (runGap s).input.tickNow = s.input.tickNow + BitVec.ofNat 32 (ticksIn (s.gaps.headD [])) := by
  simp [runGap, applyMoves, foldl_applyMove_tickNow]

/-- Settles O41: the frame is `AgentsReach` over the whole gap, the latches follow move by move. -/
theorem agentsLeaveTheBlockAlone : Obligations.AgentsLeaveTheBlockAlone := by
  intro s hs
  refine ⟨?frame, runGap_adcCode_get s, ?ticks⟩
  case frame =>
    obtain ⟨x, p, n, hn, hgap⟩ := AgentsReach.runGap hs
    refine ⟨n, hn, ?_⟩
    rw [hgap]
    rfl
  case ticks =>
    simp [runGap_tickNow, BitVec.toNat_add]

/-! The stage after a gap -/

theorem runGap_stage {s : State} (h : noResetNext s) : (runGap s).stage = s.stage := by
  obtain ⟨x, p, n, -, hgap⟩ := AgentsReach.runGap h
  rw [hgap, State.agentUpdate_stage]

/-- Settles O1: `step` is `runStage` after the gap, and a gap in which nothing happens is none. -/
theorem stepRunsTheDecodedOperation : Obligations.StepRunsTheDecodedOperation := by
  intro s i hi
  have hstep : step s = exec i (runGap s) := runStage_of_ok hi
  refine ⟨hstep, runGap_stage, fun hgaps hpending => ?_⟩
  rw [hstep, runGap_of_still hpending hgaps]

end Sys2Proof.Machine
end

section
/-! PROOFS. What no operation writes: one rule per update an operation is made of, then every
operation by its own chain of updates. -/

namespace Sys2Proof.Machine

/-- `t` has the Settings, the sample latches, the tick count, the pending bit and the coming moves of
`s`, and a trace that extends its trace (10_state.md rules R20, R25 and R27, 20_memory.md rule R69). -/
structure LeavesAgentState (s t : State) : Prop where
  settings : t.settings = s.settings
  adcCode : t.input.adcCode = s.input.adcCode
  tickNow : t.input.tickNow = s.input.tickNow
  timerPending : t.timerPending = s.timerPending
  gaps : t.gaps = s.gaps
  trace : s.trace <+: t.trace

namespace LeavesAgentState

variable {s t : State}

theorem refl (s : State) : LeavesAgentState s s :=
  ⟨rfl, rfl, rfl, rfl, rfl, List.prefix_rfl⟩

theorem setStage (h : LeavesAgentState s t) (c : StageCode) : LeavesAgentState s (t.setStage c) :=
  { h with }

theorem setWork (h : LeavesAgentState s t) (w : Work) : LeavesAgentState s (t.setWork w) :=
  { h with }

theorem setOsc (h : LeavesAgentState s t) (c : Chan) (o : Osc) :
    LeavesAgentState s (t.setOsc c o) := by
  cases c <;> exact { h with }

theorem setLfo (h : LeavesAgentState s t) (l : Lfo) : LeavesAgentState s (t.setLfo l) :=
  { h with }

theorem setHs (h : LeavesAgentState s t) (b : Bool) : LeavesAgentState s (t.setHs b) :=
  { h with }

theorem setOutput (h : LeavesAgentState s t) (o : Outputs) : LeavesAgentState s (t.setOutput o) :=
  { h with }

theorem emit (h : LeavesAgentState s t) (e : Event) : LeavesAgentState s (t.emit e) :=
  { h with trace := h.trace.trans (List.prefix_append _ _) }

theorem clearAdcReady (h : LeavesAgentState s t) : LeavesAgentState s t.clearAdcReady :=
  { h with }

theorem clearTap (h : LeavesAgentState s t) : LeavesAgentState s t.clearTap :=
  { h with }

theorem writeIrqMask (h : LeavesAgentState s t) (b : Bool) :
    LeavesAgentState s (t.writeIrqMask b) :=
  { h with trace := h.trace.trans (List.prefix_append _ _) }

theorem writeHsOut (h : LeavesAgentState s t) (b : Bool) : LeavesAgentState s (t.writeHsOut b) :=
  (h.setOutput _).emit _

theorem writeLedMode (h : LeavesAgentState s t) (b : Bool) :
    LeavesAgentState s (t.writeLedMode b) :=
  (h.setOutput _).emit _

theorem writePeriod (h : LeavesAgentState s t) (c : Chan) (p : Period) :
    LeavesAgentState s (t.writePeriod c p) :=
  (h.setOutput _).emit _

theorem writeDac (h : LeavesAgentState s t) (w0 w1 w2 w3 : DacWord) :
    LeavesAgentState s (t.writeDac w0 w1 w2 w3) :=
  (h.setOutput _).emit _

theorem consumeTap (h : LeavesAgentState s t) : LeavesAgentState s (consumeTap t) :=
  ((h.clearTap.setHs _).writeHsOut _).writeLedMode _

end LeavesAgentState

theorem execPoll_leavesAgentState (s : State) :
    ∃ t, execPoll s = .next t ∧ LeavesAgentState s t := by
  unfold execPoll
  split
  · exact ⟨_, rfl, ((LeavesAgentState.refl s).clearAdcReady.setWork _).setStage _⟩
  · exact ⟨_, rfl, ((LeavesAgentState.refl s).setWork _).setStage _⟩

theorem execHsync_leavesAgentState (s : State) :
    ∃ t, execHsync s = .next t ∧ LeavesAgentState s t := by
  refine ⟨_, rfl, LeavesAgentState.setStage ?_ _⟩
  split
  · exact (LeavesAgentState.refl s).consumeTap
  · exact .refl s

/-- Every operation goes on and leaves what the agents and the host own. -/
theorem exec_leavesAgentState (i : Instr) (s : State) :
    ∃ t, exec i s = .next t ∧ LeavesAgentState s t := by
  have h := LeavesAgentState.refl s
  cases i with
  | poll => exact execPoll_leavesAgentState s
  | resl => exact ⟨_, rfl, (h.setWork _).setStage _⟩
  | resf => exact ⟨_, rfl, (h.setWork _).setStage _⟩
  | smthl => exact ⟨_, rfl, ((h.setOsc .leader _).setWork _).setStage _⟩
  | smthf => exact ⟨_, rfl, ((h.setOsc .follower _).setWork _).setStage _⟩
  | lfoadv => exact ⟨_, rfl, (h.setLfo _).setStage _⟩
  | lfomod => exact ⟨_, rfl, (h.setWork _).setStage _⟩
  | hsync => exact execHsync_leavesAgentState s
  | clamp => exact ⟨_, rfl, (h.setWork _).setStage _⟩
  | duty => exact ⟨_, rfl, (h.setWork _).setStage _⟩
  | lookup => exact ⟨_, rfl, ((h.setOsc .leader _).setOsc .follower _).setStage _⟩
  | irqoff => exact ⟨_, rfl, (h.writeIrqMask true).setStage _⟩
  | setper0 => exact ⟨_, rfl, (h.writePeriod .leader _).setStage _⟩
  | setper1 => exact ⟨_, rfl, (h.writePeriod .follower _).setStage _⟩
  | irqon => exact ⟨_, rfl, (h.writeIrqMask false).setStage _⟩
  | dacwr => exact ⟨_, rfl, (h.writeDac _ _ _ _).setStage _⟩
  | init => exact ⟨_, rfl, ((h.setOsc .leader _).setOsc .follower _).setStage _⟩

/-- Settles O46, from the rule of each operation. -/
theorem operationsLeaveSettingsLatchesAndTicks :
    Obligations.OperationsLeaveSettingsLatchesAndTicks := by
  intro i s
  obtain ⟨t, ht, h⟩ := exec_leavesAgentState i s
  exact ⟨t, ht, h.settings, h.adcCode, h.tickNow, h.timerPending, h.gaps, h.trace⟩

end Sys2Proof.Machine
end

section
/-! PROOFS. The reset state: the values rules R34 and R281 state, and the invariants of a run. -/

namespace Sys2Proof.Machine

theorem reset_accumulators (c : Chan) :
    (State.reset.osc c).lp1 = fxZero ∧ (State.reset.osc c).lp2 = fxZero := by
  cases c <;> exact ⟨rfl, rfl⟩

/-- Settles O8: `State.reset` holds each value the table states, oscillator by oscillator. -/
theorem resetLeavesTheStatedValues : Obligations.ResetLeavesTheStatedValues :=
  ⟨rfl, rfl, rfl, rfl, reset_accumulators, rfl, rfl, rfl⟩

theorem reset_stageLegal : StageLegal State.reset := rfl

/-- The observer of an empty trace knows the pair the registers hold. -/
theorem reset_atomicCommit : AtomicCommit State.reset :=
  ⟨(State.reset.output.period0, State.reset.output.period1), rfl, rfl, rfl, fun _ => rfl, rfl⟩

theorem reset_syncFollowsTaps : SyncFollowsTaps State.reset :=
  ⟨rfl, fun _ => rfl, fun _ => rfl⟩

/-- Phase 0 at last tick 0, whatever the frequency. -/
theorem reset_phaseTracksTick : PhaseTracksTick State.reset := by
  simp [PhaseTracksTick, State.reset]

/-- Vacuous: the stage is that of INIT. -/
theorem reset_parametersFromSettings : ParametersFromSettings State.reset :=
  fun hstage => absurd rfl hstage

/-- Vacuous: CLAMP has not run. -/
theorem reset_lookupArgumentsInRange : LookupArgumentsInRange State.reset := by
  rintro (hstage | hstage) <;> exact absurd hstage (by decide)

/-- Settles O47, invariant by invariant. -/
theorem resetSatisfiesTheInvariants : Obligations.ResetSatisfiesTheInvariants where
  legal := reset_stageLegal
  commit := reset_atomicCommit
  sync := reset_syncFollowsTaps
  phase := reset_phaseTracksTick
  parameters := reset_parametersFromSettings
  range := reset_lookupArgumentsInRange

end Sys2Proof.Machine
end

section
/-! PROOFS. The family of spec/20_memory.md. First the index maps of the ADC and SETTINGS spaces. -/

namespace Sys2Proof.Machine

theorem AdcChannel.ofIndex_eq_some_iff (n : Nat) (c : AdcChannel) :
    AdcChannel.ofIndex n = some c ↔ n = c.index := by
  constructor
  · intro h
    unfold AdcChannel.ofIndex at h
    split at h <;> cases h <;> rfl
  · rintro rfl
    cases c <;> rfl

theorem AdcChannel.ofIndex_eq_none_iff (n : Nat) : AdcChannel.ofIndex n = none ↔ 9 ≤ n := by
  constructor
  · intro h
    by_contra hlt
    interval_cases n <;> cases h
  · intro h
    obtain ⟨k, rfl⟩ := Nat.exists_eq_add_of_le' h
    rfl

theorem SettingReg.ofIndex_eq_some_iff (n : Nat) (r : SettingReg) :
    SettingReg.ofIndex n = some r ↔ n = r.index := by
  constructor
  · intro h
    unfold SettingReg.ofIndex at h
    split at h <;> cases h <;> rfl
  · rintro rfl
    cases r <;> rfl

theorem SettingReg.ofIndex_eq_none_iff (n : Nat) : SettingReg.ofIndex n = none ↔ 13 ≤ n := by
  constructor
  · intro h
    by_contra hlt
    interval_cases n <;> cases h
  · intro h
    obtain ⟨k, rfl⟩ := Nat.exists_eq_add_of_le' h
    rfl

/-- Settles O7: the two tables by evaluation at their indices, the four laws for every index. -/
theorem portIndexMaps : Obligations.PortIndexMaps :=
  ⟨rfl, rfl, fun _ => rfl, fun _ => rfl, AdcChannel.ofIndex_eq_some_iff,
    AdcChannel.ofIndex_eq_none_iff, SettingReg.ofIndex_eq_some_iff, SettingReg.ofIndex_eq_none_iff⟩

end Sys2Proof.Machine
end

section
/-! PROOFS. What each operation writes, said once: the stage it goes to, the events it emits, and, for
each piece of state, that no operation but its writer changes it. The invariants and the flags of this
family follow from these rules. -/

namespace Sys2Proof.Machine

/-- Every code the decoder accepts is the code of the operation it answers. -/
theorem eq_encode_of_decode {c : StageCode} {i : Instr} (h : decode c = .ok i) : c = encode i := by
  unfold decode at h
  split at h <;> cases h <;> exact BitVec.eq_of_toNat_eq (by assumption)

/-- The stage after an operation (46_scheduler.md rule R232). -/
def nextStage (i : Instr) (s : State) : StageCode :=
  match i with
  | .poll => if s.input.adcReady then 1#5 else 7#5
  | .resl => 2#5
  | .resf => 3#5
  | .smthl => 4#5
  | .smthf => 5#5
  | .lfoadv => 6#5
  | .lfomod => 7#5
  | .hsync => if s.work.dv then 8#5 else 0#5
  | .clamp => 9#5
  | .duty => 10#5
  | .lookup => 11#5
  | .irqoff => 12#5
  | .setper0 => 13#5
  | .setper1 => 14#5
  | .irqon => 15#5
  | .dacwr | .init => 0#5

/-- The events an operation emits, in order (20_memory.md rule R69). -/
def emittedBy (i : Instr) (s : State) : List Event :=
  match i with
  | .hsync => if s.input.tapPending then [.hardSync (!s.hs), .ledMode (!s.hs)] else []
  | .irqoff => [.irqMask true]
  | .setper0 => [.setPeriod .leader s.oscL.period]
  | .setper1 => [.setPeriod .follower s.oscF.period]
  | .irqon => [.irqMask false]
  | .dacwr => [.dacWrite (dacWord true s.oscL.dacCode) (dacWord false s.work.dutyL)
      (dacWord true s.oscF.dacCode) (dacWord false s.work.dutyF)]
  | .poll | .resl | .resf | .smthl | .smthf | .lfoadv | .lfomod | .clamp | .duty | .lookup
  | .init => []

/-- `o'` has the parameters INIT derives for an oscillator as `o` has them (42_smoothing.md rule
R150). -/
def SameParameters (o o' : Osc) : Prop :=
  o'.g0 = o.g0 ∧ o'.sens = o.sens ∧ o'.knobRange = o.knobRange

@[simp] theorem SameParameters.refl (o : Osc) : SameParameters o o := ⟨rfl, rfl, rfl⟩

@[simp] theorem smoothStep_sameParameters (o : Osc) (x : Fix) :
    SameParameters o (smoothStep o x) := ⟨rfl, rfl, rfl⟩

@[simp] theorem storeVoice_sameParameters (o : Osc) (p : VoiceParams) :
    SameParameters o (storeVoice o p) := ⟨rfl, rfl, rfl⟩

/-- What operation `i`, run from `s`, does on its way to `t`: where it goes, what it emits, and that a
piece of state changes only in its own writer (10_state.md rules R20 to R31). -/
structure OwnWritesOnly (i : Instr) (s t : State) : Prop where
  stage : t.stage = nextStage i s
  trace : t.trace = s.trace ++ emittedBy i s
  settings : t.settings = s.settings
  adcReady : t.input.adcReady = (s.input.adcReady && i != .poll)
  tapPending : t.input.tapPending = (s.input.tapPending && i != .hsync)
  lfo : i ≠ .lfoadv → t.lfo = s.lfo
  clamped : i ≠ .clamp → t.work.cl = s.work.cl ∧ t.work.cf = s.work.cf
  parameters : i ≠ .init → SameParameters s.oscL t.oscL ∧ SameParameters s.oscF t.oscF
  sync : i ≠ .hsync →
    t.hs = s.hs ∧ t.output.hsOut = s.output.hsOut ∧ t.output.ledMode = s.output.ledMode
  mask : i ≠ .irqoff → i ≠ .irqon → t.irqMask = s.irqMask
  period0 : i ≠ .setper0 → t.output.period0 = s.output.period0
  period1 : i ≠ .setper1 → t.output.period1 = s.output.period1

theorem execPoll_ownWritesOnly {s t : State} (h : execPoll s = .next t) :
    OwnWritesOnly .poll s t := by
  unfold execPoll at h
  split at h
  case isTrue hready =>
    cases h
    constructor <;> simp [hready, emittedBy, nextStage, clearAdcReady_eq]
  case isFalse hready =>
    cases h
    constructor <;> simp [hready, emittedBy, nextStage]

theorem execHsync_ownWritesOnly {s t : State} (h : execHsync s = .next t) :
    OwnWritesOnly .hsync s t := by
  cases h
  cases htap : s.input.tapPending <;> constructor <;>
    simp [htap, emittedBy, nextStage, consumeTap_eq]

theorem execInit_ownWritesOnly {s t : State} (h : execInit s = .next t) :
    OwnWritesOnly .init s t := by
  rw [execInit_eq] at h
  cases h
  constructor <;> simp [emittedBy, nextStage]

/-- POLL and HSYNC branch and INIT has its equation; each other operation is one chain of updates, read
off field by field. -/
theorem exec_ownWritesOnly {i : Instr} {s t : State} (h : exec i s = .next t) :
    OwnWritesOnly i s t := by
  cases i with
  | poll => exact execPoll_ownWritesOnly h
  | hsync => exact execHsync_ownWritesOnly h
  | init => exact execInit_ownWritesOnly h
  | _ =>
    cases h
    constructor <;>
      simp [emittedBy, nextStage, writeIrqMask_eq, writePeriod_leader_eq, writePeriod_follower_eq,
        writeDac_eq]

/-- Every operation goes on, and writes its own part of the state only. -/
theorem exec_goes_on (i : Instr) (s : State) : ∃ t, exec i s = .next t ∧ OwnWritesOnly i s t := by
  obtain ⟨t, ht, -⟩ := exec_leavesAgentState i s
  exact ⟨t, ht, exec_ownWritesOnly ht⟩

end Sys2Proof.Machine
end

section
/-! PROOFS. The two input flags: a gap only sets them, and one operation each clears them. -/

namespace Sys2Proof.Machine

theorem moveEffect_tapPending (s : State) {m : AgentMove} (hm : m.isReset = false) :
    (moveEffect s m).input.tapPending = (s.input.tapPending || m == .tap) := by
  cases m <;> simp_all [moveEffect, AgentMove.isReset]

theorem moveEffect_adcReady (s : State) {m : AgentMove} (hm : m.isReset = false) :
    (moveEffect s m).input.adcReady = (s.input.adcReady || m == .adcReady) := by
  cases m <;> simp_all [moveEffect, AgentMove.isReset]

section
variable {flag : Inputs → Bool} {setter : AgentMove}
  (hmove : ∀ (s : State) {m : AgentMove}, m.isReset = false →
    flag (moveEffect s m).input = (flag s.input || m == setter))
include hmove

/-- A flag that one move sets and no move but a reset clears is 1 after some moves exactly if it was 1
or that move is among them. -/
theorem foldl_applyMove_flag {ms : List AgentMove} (hms : ∀ m ∈ ms, m.isReset = false) (s : State) :
    flag (ms.foldl applyMove s).input = true ↔ flag s.input = true ∨ setter ∈ ms := by
  induction ms generalizing s with
  | nil => simp
  | cons m ms ih =>
    obtain ⟨hm, hms⟩ := List.forall_mem_cons.mp hms
    rw [List.foldl_cons, ih hms, applyMove_input, hmove s hm]
    simp [or_assoc, @eq_comm _ m setter]

theorem runGap_flag {s : State} (hs : noResetNext s) :
    flag (runGap s).input = true ↔ flag s.input = true ∨ setter ∈ s.gaps.headD [] := by
  simpa [runGap, applyMoves] using
    foldl_applyMove_flag hmove hs (serveTimer { s with gaps := s.gaps.tail })

end

/-- Settles O43: gaps by `runGap_flag`, operations by what each one writes. -/
theorem setsAreNeverLost : Obligations.SetsAreNeverLost := by
  refine ⟨fun s hs => ⟨?tap, ?ready⟩, fun i s => ?operation⟩
  case tap => exact runGap_flag moveEffect_tapPending hs
  case ready => exact runGap_flag moveEffect_adcReady hs
  case operation =>
    obtain ⟨t, ht, h⟩ := exec_goes_on i s
    exact ⟨t, ht, h.adcReady, h.tapPending⟩

end Sys2Proof.Machine
end

section
/-! PROOFS. The atomic commit (20_memory.md rule R67), and the rule by which this and the other
invariants go through a gap. -/

namespace Sys2Proof.Machine

/-- What one move but a reset leaves alone: everything but the input latches and the pending bit. -/
theorem moveEffect_eq (s : State) {m : AgentMove} (hm : m.isReset = false) :
    moveEffect s m = { s with
      input := (moveEffect s m).input, timerPending := (moveEffect s m).timerPending } := by
  cases m with
  | reset t => cases hm
  | _ => rfl

/-- What the agents' own writes, an unmasked timer read and a reset keep, every gap keeps. -/
theorem runGap_keeps (P : State → Prop)
    (hagents : ∀ s x p g, P s → P { s with input := x, timerPending := p, gaps := g })
    (hread : ∀ s, s.irqMask = false → P s →
      P (s.emit (.timerRead s.output.period0 s.output.period1)))
    (hreset : ∀ s t, P s → P (s.hostReset t)) (s : State) (h : P s) : P (runGap s) := by
  refine runGap_preserves P (fun s g hs => hagents s s.input s.timerPending g hs) ?serve ?move s h
  case serve =>
    intro s hs
    obtain ⟨heq, -⟩ | ⟨-, hmask, heq⟩ := serveTimer_cases s
    · rw [heq]
      exact hs
    · rw [heq]
      exact hagents _ s.input false s.gaps (hread s hmask hs)
  case move =>
    intro s m hs
    cases hm : m.isReset with
    | false =>
      rw [moveEffect_eq s hm]
      exact hagents s _ _ s.gaps hs
    | true =>
      cases m with
      | reset t => exact hreset s t hs
      | _ => cases hm

/-- The observer's view `v` of the trace is right about the state: the atomic-commit invariant for one
view. -/
structure ViewMatches (v : CommitView) (s : State) : Prop where
  whole : v.whole = true
  masked : v.masked = s.irqMask
  written : v.written = (s.output.period0, s.output.period1)
  committed : s.stage ≠ 13#5 → v.committed = (s.output.period0, s.output.period1)
  maskMatches : MaskMatchesStage s

theorem atomicCommit_iff (s : State) :
    AtomicCommit s ↔ ∃ p, ViewMatches (commitView p s.trace) s := by
  constructor
  · rintro ⟨p, hwhole, hmasked, hwritten, hcommitted, hmask⟩
    exact ⟨p, hwhole, hmasked, hwritten, hcommitted, hmask⟩
  · rintro ⟨p, h⟩
    exact ⟨p, h.whole, h.masked, h.written, h.committed, h.maskMatches⟩

theorem commitView_append (p : Period × Period) (es es' : List Event) :
    commitView p (es ++ es') = es'.foldl CommitView.observe (commitView p es) :=
  List.foldl_append

/-- An unmasked read sees the committed pair: the mask is clear at stage 13. -/
theorem ViewMatches.timerRead {v : CommitView} {s : State} (h : ViewMatches v s)
    (hmask : s.irqMask = false) :
    ViewMatches (v.observe (.timerRead s.output.period0 s.output.period1)) s := by
  have hstage : s.stage ≠ 13#5 := by
    intro h13
    have hset := h.maskMatches
    rw [MaskMatchesStage, h13, hmask] at hset
    exact absurd hset (by decide)
  exact { h with
    whole := by simp [CommitView.observe, h.whole, h.masked, hmask, h.committed hstage] }

theorem atomicCommit_hostReset (s : State) (t : Settings) : AtomicCommit (s.hostReset t) :=
  ⟨(s.output.period0, s.output.period1), rfl, rfl, rfl, fun _ => rfl, rfl⟩

theorem runGap_atomicCommit {s : State} (h : AtomicCommit s) : AtomicCommit (runGap s) := by
  refine runGap_keeps AtomicCommit (fun _ _ _ _ hs => hs) ?read
    (fun s t _ => atomicCommit_hostReset s t) s h
  intro s hmask hs
  obtain ⟨p, hv⟩ := (atomicCommit_iff s).mp hs
  refine (atomicCommit_iff _).mpr ⟨p, ?_⟩
  rw [State.emit_trace, commitView_append]
  exact { hv.timerRead hmask with }

/-! The operations outside the commit sequence -/

theorem foldl_observe_emittedBy {i : Instr} (hi : i ∉ PseudoOp.commit.expand) (s : State)
    (v : CommitView) : (emittedBy i s).foldl CommitView.observe v = v := by
  cases i with
  | irqoff | setper0 | setper1 | irqon => exact absurd hi (by decide)
  | hsync => cases htap : s.input.tapPending <;> simp [emittedBy, htap, CommitView.observe]
  | _ => rfl

theorem encode_not_critical {i : Instr} (hi : i ∉ PseudoOp.commit.expand) :
    encode i ≠ 13#5 ∧ inCriticalSection (encode i) = false := by
  cases i with
  | irqoff | setper0 | setper1 | irqon => exact absurd hi (by decide)
  | _ => decide

theorem nextStage_not_critical {i : Instr} (hi : i ∉ PseudoOp.commit.expand) (s : State) :
    inCriticalSection (nextStage i s) = false := by
  cases i with
  | irqoff | setper0 | setper1 | irqon => exact absurd hi (by decide)
  | poll | hsync => simp only [nextStage]; split <;> rfl
  | _ => rfl

/-- No other operation writes what the view is about, and all of them are outside the critical
section. -/
theorem ViewMatches.exec_of_not_commit {v : CommitView} {i : Instr} {s t : State}
    (h : ViewMatches v s) (hs : s.stage = encode i) (hi : i ∉ PseudoOp.commit.expand)
    (he : exec i s = .next t) : ViewMatches v t := by
  have ⟨h13, hcritical⟩ := encode_not_critical hi
  have hmask : s.irqMask = false := by rw [h.maskMatches, hs, hcritical]
  have own := exec_ownWritesOnly he
  obtain ⟨hoff, hset0, hset1, hon⟩ :
      i ≠ .irqoff ∧ i ≠ .setper0 ∧ i ≠ .setper1 ∧ i ≠ .irqon := by
    simpa [PseudoOp.expand] using hi
  have hm : t.irqMask = s.irqMask := own.mask hoff hon
  have h0 : t.output.period0 = s.output.period0 := own.period0 hset0
  have h1 : t.output.period1 = s.output.period1 := own.period1 hset1
  refine ⟨h.whole, by rw [hm, h.masked], by rw [h0, h1, h.written], fun _ => ?_, ?_⟩
  · rw [h0, h1, h.committed (hs ▸ h13)]
  · rw [MaskMatchesStage, hm, hmask, own.stage, nextStage_not_critical hi]

/-- The commit sequence moves the view with the registers: the mask set at 11 and cleared at 14, the
leader's period written at 12, the follower's, which completes the pair, at 13. -/
theorem ViewMatches.exec {v : CommitView} {i : Instr} {s t : State}
    (h : ViewMatches v s) (hs : s.stage = encode i) (he : exec i s = .next t) :
    ViewMatches ((emittedBy i s).foldl CommitView.observe v) t := by
  by_cases hi : i ∈ PseudoOp.commit.expand
  case neg =>
    rw [foldl_observe_emittedBy hi]
    exact h.exec_of_not_commit hs hi he
  case pos =>
    cases i with
    | irqoff =>
      cases he
      exact ⟨h.whole, rfl, h.written, fun _ => h.committed (by simp [hs, encode]), rfl⟩
    | setper0 =>
      have hmask : s.irqMask = true := by rw [h.maskMatches, hs]; rfl
      have hpair : ((s.oscL.period, v.written.2) : Period × Period) =
          (s.oscL.period, s.output.period1) := by rw [h.written]
      cases he
      exact ⟨h.whole, h.masked, hpair, fun h13 => absurd rfl h13, hmask⟩
    | setper1 =>
      have hmask : s.irqMask = true := by rw [h.maskMatches, hs]; rfl
      have hpair : ((v.written.1, s.oscF.period) : Period × Period) =
          (s.output.period0, s.oscF.period) := by rw [h.written]
      cases he
      exact ⟨h.whole, h.masked, hpair, fun _ => hpair, hmask⟩
    | irqon =>
      cases he
      exact ⟨h.whole, rfl, h.written, fun _ => h.committed (by simp [hs, encode]), rfl⟩
    | _ => exact absurd hi (by decide)

theorem exec_atomicCommit {i : Instr} {s t : State} (hi : decode s.stage = .ok i)
    (h : AtomicCommit s) (he : exec i s = .next t) : AtomicCommit t := by
  obtain ⟨p, hv⟩ := (atomicCommit_iff s).mp h
  refine (atomicCommit_iff t).mpr ⟨p, ?_⟩
  rw [(exec_ownWritesOnly he).trace, commitView_append]
  exact hv.exec (eq_encode_of_decode hi) he

/-- Settles O48: gaps by `runGap_atomicCommit`, operations by the view that moves with the registers. -/
theorem everyStepKeepsTheAtomicCommit : Obligations.EveryStepKeepsTheAtomicCommit := by
  intro s t hs hstep
  exact step_preserves AtomicCommit (fun _ => runGap_atomicCommit)
    (fun _ _ _ hi h he => exec_atomicCommit hi h he) hs hstep

end Sys2Proof.Machine
end

section
/-! PROOFS. The other invariants through one gap and one operation, each with the one operation that
writes what it is about; then all of them through a run. -/

namespace Sys2Proof.Machine

theorem exec_lfoadv (s : State) : exec .lfoadv s = execLfoadv s := rfl

theorem exec_clamp (s : State) : exec .clamp s = execClamp s := rfl

theorem exec_init (s : State) : exec .init s = execInit s := rfl

/-! The stage -/

theorem nextStage_legal (i : Instr) (s : State) : legalStage (nextStage i s) = true := by
  cases i with
  | poll | hsync => simp only [nextStage]; split <;> rfl
  | _ => rfl

theorem runGap_stageLegal {s : State} (h : StageLegal s) : StageLegal (runGap s) :=
  runGap_keeps StageLegal (fun _ _ _ _ hs => hs) (fun _ _ hs => hs) (fun _ _ _ => rfl) s h

theorem exec_stageLegal {i : Instr} {s t : State} (he : exec i s = .next t) : StageLegal t := by
  rw [StageLegal, (exec_ownWritesOnly he).stage]
  exact nextStage_legal i s

/-! The sync parity (44_hard_sync.md rule R193) -/

/-- Events that are no notification leave the sync invariant alone. -/
theorem SyncFollowsTaps.of_silent {s t : State} (h : SyncFollowsTaps s) {es : List Event}
    (hes : ∀ e ∈ es, e.isHardSync = false ∧ e.isLedMode = false) (htrace : t.trace = s.trace ++ es)
    (hhs : t.hs = s.hs) (hout : t.output.hsOut = s.output.hsOut)
    (hled : t.output.ledMode = s.output.ledMode) : SyncFollowsTaps t := by
  have hnone : es.any Event.isHardSync = false := List.any_eq_false.mpr fun e he => by
    simp [(hes e he).1]
  have hnoneLed : es.any Event.isLedMode = false := List.any_eq_false.mpr fun e he => by
    simp [(hes e he).2]
  have hfilter : es.filter Event.isHardSync = [] := List.filter_eq_nil_iff.mpr fun e he => by
    simp [(hes e he).1]
  have hcount : consumedTaps t.trace = consumedTaps s.trace := by
    simp only [consumedTaps, htrace, List.filter_append, hfilter, List.append_nil]
  obtain ⟨hparity, hport, hledPort⟩ := h
  refine ⟨by rw [hhs, hcount, hparity], ?_, ?_⟩
  · rwa [htrace, List.any_append, hnone, Bool.or_false, hhs, hout]
  · rwa [htrace, List.any_append, hnoneLed, Bool.or_false, hhs, hled]

theorem runGap_syncFollowsTaps {s : State} (h : SyncFollowsTaps s) : SyncFollowsTaps (runGap s) := by
  refine runGap_keeps SyncFollowsTaps (fun _ _ _ _ hs => hs) ?read ?reset s h
  case read =>
    intro s _ hs
    exact hs.of_silent (by simp [Event.isHardSync, Event.isLedMode]) (s.emit_trace _) rfl rfl rfl
  case reset =>
    intro s t _
    exact ⟨rfl, fun _ => rfl, fun _ => rfl⟩

theorem emittedBy_silent {i : Instr} (hi : i ≠ .hsync) (s : State) :
    ∀ e ∈ emittedBy i s, e.isHardSync = false ∧ e.isLedMode = false := by
  cases i <;> simp_all [emittedBy, Event.isHardSync, Event.isLedMode]

theorem consumedTaps_consumeTap (s : State) :
    consumedTaps (consumeTap s).trace = consumedTaps s.trace + 1 := by
  simp [consumeTap_eq, consumedTaps, List.filter_cons, Event.isHardSync]

/-- A consumed tap flips `HS` and adds one notification, and both ports get the new value. -/
theorem consumeTap_syncFollowsTaps {s : State} (h : SyncFollowsTaps s) :
    SyncFollowsTaps (consumeTap s) := by
  obtain ⟨hparity, -, -⟩ := h
  refine ⟨?_, fun _ => rfl, fun _ => rfl⟩
  have hflip : (consumeTap s).hs = !s.hs := rfl
  rw [hflip, consumedTaps_consumeTap, hparity, ← decide_not, decide_eq_decide]
  omega

theorem exec_syncFollowsTaps {i : Instr} {s t : State} (h : SyncFollowsTaps s)
    (he : exec i s = .next t) : SyncFollowsTaps t := by
  by_cases hi : i = .hsync
  case pos =>
    subst hi
    cases he
    cases s.input.tapPending with
    | false => exact h
    | true => exact consumeTap_syncFollowsTaps h
  case neg =>
    have own := exec_ownWritesOnly he
    obtain ⟨hhs, hout, hled⟩ := own.sync hi
    exact h.of_silent (emittedBy_silent hi s) own.trace hhs hout hled

/-! The phase law (43_lfo.md rule R174) -/

theorem runGap_phaseTracksTick {s : State} (h : PhaseTracksTick s) : PhaseTracksTick (runGap s) :=
  runGap_keeps PhaseTracksTick (fun _ _ _ _ hs => hs) (fun _ _ hs => hs)
    (fun s t _ => by simp [PhaseTracksTick]) s h

theorem toNat_advancePhase (k : Fix) (p : Phase) (elapsed : Tick) :
    ((advancePhase k p elapsed).toNat : Int) = (p.toNat + k.toInt * elapsed.toNat) % 65536 := by
  rw [advancePhase, BitVec.toNat_ofInt]
  exact Int.toNat_of_nonneg (Int.emod_nonneg _ (by norm_num))

theorem last_add_elapsed (last now : Tick) :
    (last.toNat + (now - last).toNat : Int) ≡ now.toNat [ZMOD 65536] := by
  rw [Int.ModEq, BitVec.toNat_sub]
  omega

/-- The product modulo one cycle does not see the tick counter wrap, since 65536 divides 2³². -/
theorem lfoAdvance_tracks {k : Fix} {l : Lfo}
    (h : (l.phase.toNat : Int) = k.toInt * l.last.toNat % 65536) (now : Tick) :
    ((lfoAdvance k l now).phase.toNat : Int) =
      k.toInt * (lfoAdvance k l now).last.toNat % 65536 := by
  simp only [lfoAdvance]
  split
  case isFalse => exact h
  case isTrue =>
    calc ((advancePhase k l.phase (now - l.last)).toNat : Int)
        = (l.phase.toNat + k.toInt * (now - l.last).toNat) % 65536 := toNat_advancePhase _ _ _
      _ = (k.toInt * l.last.toNat + k.toInt * (now - l.last).toNat) % 65536 := by
        rw [h, Int.emod_add_emod]
      _ = k.toInt * (l.last.toNat + (now - l.last).toNat) % 65536 := by rw [mul_add]
      _ = k.toInt * now.toNat % 65536 := (last_add_elapsed l.last now).mul_left _

theorem exec_phaseTracksTick {i : Instr} {s t : State} (h : PhaseTracksTick s)
    (he : exec i s = .next t) : PhaseTracksTick t := by
  by_cases hi : i = .lfoadv
  case pos =>
    subst hi
    rw [exec_lfoadv, execLfoadv_eq] at he
    cases he
    exact lfoAdvance_tracks h s.input.tickNow
  case neg =>
    have own := exec_ownWritesOnly he
    rw [PhaseTracksTick, own.lfo hi, own.settings]
    exact h

/-! The parameters (42_smoothing.md rule R150) -/

theorem runGap_parametersFromSettings {s : State} (h : ParametersFromSettings s) :
    ParametersFromSettings (runGap s) :=
  runGap_keeps ParametersFromSettings (fun _ _ _ _ hs => hs) (fun _ _ hs => hs)
    (fun _ _ _ hstage => absurd rfl hstage) s h

theorem encode_ne_of_ne_init {i : Instr} (hi : i ≠ .init) : encode i ≠ 16#5 := by
  cases i with
  | init => exact absurd rfl hi
  | _ => decide

theorem exec_parametersFromSettings {i : Instr} {s t : State} (hi : decode s.stage = .ok i)
    (h : ParametersFromSettings s) (he : exec i s = .next t) : ParametersFromSettings t := by
  intro _ c
  by_cases hinit : i = .init
  case pos =>
    subst hinit
    rw [exec_init, execInit_eq] at he
    cases he
    cases c <;> exact ⟨rfl, rfl, rfl⟩
  case neg =>
    have hstage : s.stage ≠ 16#5 := eq_encode_of_decode hi ▸ encode_ne_of_ne_init hinit
    have own := exec_ownWritesOnly he
    have hsame : SameParameters (s.osc c) (t.osc c) := by
      obtain ⟨hleader, hfollower⟩ := own.parameters hinit
      cases c
      · exact hleader
      · exact hfollower
    obtain ⟨hg0, hsens, hrange⟩ := hsame
    rw [hg0, hsens, hrange, own.settings]
    exact h hstage c

/-! The clamp property (45_output_commit.md rule R210) -/

theorem runGap_lookupArgumentsInRange {s : State} (h : LookupArgumentsInRange s) :
    LookupArgumentsInRange (runGap s) := by
  refine runGap_keeps LookupArgumentsInRange (fun _ _ _ _ hs => hs) (fun _ _ hs => hs) ?reset s h
  intro s t _ hstage
  simp at hstage

theorem pitchClamp_inTableRange (v : Fix) : inTableRange (pitchClamp v) := by
  simp only [inTableRange, pitchClamp, toInt_fxClamp, toInt_fxZero, toInt_pitchHi]
  omega

/-- CLAMP and DUTY alone lead to a stage at which the clamped voltages are promised. -/
theorem eq_clamp_or_duty_of_nextStage {i : Instr} {s : State}
    (h : nextStage i s = 9#5 ∨ nextStage i s = 10#5) : i = .clamp ∨ i = .duty := by
  cases i with
  | clamp => exact .inl rfl
  | duty => exact .inr rfl
  | poll | hsync => simp only [nextStage] at h; split at h <;> simp at h
  | _ => simp [nextStage] at h

theorem exec_lookupArgumentsInRange {i : Instr} {s t : State} (hi : decode s.stage = .ok i)
    (h : LookupArgumentsInRange s) (he : exec i s = .next t) : LookupArgumentsInRange t := by
  intro hstage
  have own := exec_ownWritesOnly he
  rw [own.stage] at hstage
  obtain rfl | rfl := eq_clamp_or_duty_of_nextStage hstage
  · rw [exec_clamp, execClamp_eq] at he
    cases he
    exact ⟨pitchClamp_inTableRange _, pitchClamp_inTableRange _⟩
  · obtain ⟨hcl, hcf⟩ := own.clamped (by decide)
    rw [hcl, hcf]
    exact h (.inl (eq_encode_of_decode hi))

/-! All of them -/

theorem runGap_invariant {s : State} (h : Invariant s) : Invariant (runGap s) where
  legal := runGap_stageLegal h.legal
  commit := runGap_atomicCommit h.commit
  sync := runGap_syncFollowsTaps h.sync
  phase := runGap_phaseTracksTick h.phase
  parameters := runGap_parametersFromSettings h.parameters
  range := runGap_lookupArgumentsInRange h.range

theorem exec_invariant {i : Instr} {s t : State} (hi : decode s.stage = .ok i) (h : Invariant s)
    (he : exec i s = .next t) : Invariant t where
  legal := exec_stageLegal he
  commit := exec_atomicCommit hi h.commit he
  sync := exec_syncFollowsTaps h.sync he
  phase := exec_phaseTracksTick h.phase he
  parameters := exec_parametersFromSettings hi h.parameters he
  range := exec_lookupArgumentsInRange hi h.range he

theorem step_invariant {s t : State} (h : Invariant s) (hstep : step s = .next t) : Invariant t :=
  step_preserves Invariant (fun _ => runGap_invariant) (fun _ _ _ => exec_invariant) h hstep

/-- Settles O53, by induction on the number of steps. -/
theorem everyRunKeepsTheInvariants : Obligations.EveryRunKeepsTheInvariants := by
  intro s t k h hrun
  induction k generalizing s with
  | zero =>
    rw [core_run_zero] at hrun
    cases hrun
    exact h
  | succ k ih =>
    obtain ⟨u, hstep, hrest⟩ := core_run_succ_next hrun
    exact ih u (step_invariant h hstep) hrest

end Sys2Proof.Machine
end

section
/-! PROOFS. The family of spec/30_encoding.md. First the decoder's three laws; then what a table word
decodes to, what a reserved stage does to a step, and what a placed operation runs. -/

namespace Sys2Proof.Machine

@[simp] theorem decode_encode (i : Instr) : decode (encode i) = .ok i := by
  cases i <;> rfl

theorem decode_eq_ok_iff (c : StageCode) (i : Instr) : decode c = .ok i ↔ c = encode i :=
  ⟨eq_encode_of_decode, fun h => h ▸ decode_encode i⟩

theorem decode_of_reserved {c : StageCode} (h : 17 ≤ c.toNat) :
    decode c = .error (.reservedCode c) := by
  obtain ⟨k, hk⟩ := Nat.exists_eq_add_of_le' h
  rw [decode, hk]
  rfl

/-- Settles O3: the table's order by evaluation at the codes 0 to 16, the two laws for every code. -/
theorem decoderIsTheOperationTable : Obligations.DecoderIsTheOperationTable :=
  ⟨rfl, decode_eq_ok_iff, fun _ => decode_of_reserved⟩

/-! Table words -/

theorem decodeTableWord_eq_some_iff (nbits w : Nat) (i : Instr) :
    decodeTableWord nbits w = some i ↔ stageOfTableWord nbits w = encode i := by
  rw [← decode_eq_ok_iff, decodeTableWord]
  cases decode (stageOfTableWord nbits w) <;> simp [Except.toOption]

theorem decodeTableWord_of_reserved {nbits w : Nat}
    (h : 17 ≤ (stageOfTableWord nbits w).toNat) : decodeTableWord nbits w = none := by
  rw [decodeTableWord, decode_of_reserved h]
  rfl

/-- Settles O4: each word's stage value is compared with the operation's code, the last one with the
first reserved code. -/
theorem writtenOutWordsDecode : Obligations.WrittenOutWordsDecode := by
  refine ⟨?poll, ?resf, ?smthl, ?lfoadv, ?hsync, ?setper0, ?init, ?reserved⟩
  case reserved => exact decodeTableWord_of_reserved (by decide)
  all_goals exact (decodeTableWord_eq_some_iff _ _ _).2 rfl

/-! Reserved stages -/

theorem runStage_of_reserved {s : State} (h : 17 ≤ s.stage.toNat) :
    runStage s = .refused (.reservedStage s.stage) := by
  simp [runStage, decode_of_reserved h]

theorem stageLegal_iff (s : State) : StageLegal s ↔ s.stage.toNat ≤ 16 :=
  decide_eq_true_iff

/-- Settles O5: `step` is `runStage` after the gap, and every operation goes to a legal stage. -/
theorem reservedStageIsRefused : Obligations.ReservedStageIsRefused :=
  ⟨fun _ => runStage_of_reserved, fun _ _ t he => (stageLegal_iff t).1 (exec_stageLegal he), rfl⟩

/-! A placed operation -/

/-- The empty gap that `placeOperation` puts first is used up, and nothing but the stage is left of
the placing. -/
theorem runGap_placeOperation {s : State} (h : s.timerPending = false) (c : StageCode) :
    runGap (s.placeOperation c) = { s with stage := c } :=
  runGap_of_quiet h rfl

/-- Settles O2: the gap leaves the word's stage value, which is the operation's code. -/
theorem placedOperationRunsNext : Obligations.PlacedOperationRunsNext := by
  intro s nbits w i hword hpending
  have hcode : stageOfTableWord nbits w = encode i := (decodeTableWord_eq_some_iff nbits w i).1 hword
  calc step (s.withFetchWord nbits w)
      = runStage { s with stage := stageOfTableWord nbits w } :=
        congrArg runStage (runGap_placeOperation hpending _)
    _ = runStage { s with stage := encode i } := by rw [hcode]
    _ = exec i { s with stage := encode i } := runStage_of_ok (decode_encode i)

end Sys2Proof.Machine
end

section
/-! PROOFS. The family of spec/40_fixed_point.md. First what the one narrowing of rule R100 does to
an integer in and out of range, and what each primitive narrows; then the rounding of the quotient over
the integers. An obligation is the rounding's law carried through the narrowing. -/

namespace Sys2Proof.Machine

/-! The narrowing (rule R100) -/

theorem sat32_of_lt {x : Int} (h : x < -2147483648) : sat32 x = fixMin := by
  rw [sat32, if_neg (by omega), if_pos h]

theorem sat32_of_gt {x : Int} (h : 2147483647 < x) : sat32 x = fixMax :=
  if_pos h

theorem toInt_sat32_of_range {x : Int} (h1 : -2147483648 ≤ x) (h2 : x ≤ 2147483647) :
    (sat32 x).toInt = x := by
  rw [toInt_sat32, refSat_of_range h1 h2]

@[simp] theorem sat32_toInt (a : Fix) : sat32 a.toInt = a := by
  obtain ⟨hlo, hhi⟩ := fix_toInt_bounds a
  exact BitVec.eq_of_toInt_eq (toInt_sat32_of_range hlo hhi)

theorem toInt_sat32_mono {x y : Int} (h : x ≤ y) : (sat32 x).toInt ≤ (sat32 y).toInt := by
  simpa using refSat_mono h

theorem toInt_fxFromInt_of_range {n : Int} (h1 : -32768 ≤ n) (h2 : n ≤ 32767) :
    (fxFromInt n).toInt = n * 65536 :=
  toInt_sat32_of_range (by omega) (by omega)

/-! What the primitives narrow (rules R105 and R106) -/

theorem fxMul_eq_sat32 (a b : Fix) : fxMul a b = sat32 ((a.toInt * b.toInt + 32768) / 65536) :=
  rfl

theorem fxDiv_of_pos {a b : Fix} (h : 0 < b.toInt) :
    fxDiv a b = sat32 (roundedQuotient a.toInt b.toInt) := by
  rw [fxDiv, if_neg h.ne', if_pos h]

theorem fxDiv_of_neg {a b : Fix} (h : b.toInt < 0) :
    fxDiv a b = sat32 (roundedQuotient (-a.toInt) (-b.toInt)) := by
  rw [fxDiv, if_neg h.ne, if_neg h.not_gt]

theorem fxDiv_of_zero {a b : Fix} (h : b.toInt = 0) :
    fxDiv a b = if 0 ≤ a.toInt then fixMax else fixMin :=
  if_pos h

/-- Rule R106's normalisation: whichever way the operands' signs make the divisor positive, the
result is the narrowed quotient of the normalised pair. -/
theorem fxDiv_eq_sat32 {a b : Fix} {p q : Int} (hq : 0 < q)
    (hsign : p = a.toInt ∧ q = b.toInt ∨ p = -a.toInt ∧ q = -b.toInt) :
    fxDiv a b = sat32 (roundedQuotient p q) := by
  obtain ⟨rfl, rfl⟩ | ⟨rfl, rfl⟩ := hsign
  · exact fxDiv_of_pos hq
  · exact fxDiv_of_neg (Int.neg_pos.1 hq)

/-- For a divisor other than zero there is a normalised pair. -/
theorem exists_normalised {b : Fix} (a : Fix) (hb : b.toInt ≠ 0) :
    ∃ p q : Int, 0 < q ∧ (p = a.toInt ∧ q = b.toInt ∨ p = -a.toInt ∧ q = -b.toInt) := by
  obtain hneg | hpos := lt_or_gt_of_ne hb
  · exact ⟨_, _, Int.neg_pos.2 hneg, .inr ⟨rfl, rfl⟩⟩
  · exact ⟨_, _, hpos, .inl ⟨rfl, rfl⟩⟩

theorem fxDiv_neg_neg {a b a' b' : Fix} (ha : a'.toInt = -a.toInt) (hb : b'.toInt = -b.toInt)
    (h0 : b.toInt ≠ 0) : fxDiv a' b' = fxDiv a b := by
  obtain ⟨p, q, hq, hsign⟩ := exists_normalised a h0
  have hsign' : p = a'.toInt ∧ q = b'.toInt ∨ p = -a'.toInt ∧ q = -b'.toInt := by omega
  rw [fxDiv_eq_sat32 hq hsign, fxDiv_eq_sat32 hq hsign']

/-! The rounded quotient over the integers (rule R106) -/

/-- Floor division by `2 q` with half of it added first: the error is at most half a divisor, and a
tie goes up. -/
theorem roundedQuotient_error {p q : Int} (hq : 0 < q) :
    -q < 2 * q * roundedQuotient p q - 131072 * p ∧
      2 * q * roundedQuotient p q - 131072 * p ≤ q := by
  have hdiv := Int.mul_ediv_add_emod (2 * p * 65536 + q) (2 * q)
  have hlo := Int.emod_nonneg (2 * p * 65536 + q) (by omega : 2 * q ≠ 0)
  have hhi := Int.emod_lt_of_pos (2 * p * 65536 + q) (by omega : 0 < 2 * q)
  rw [← roundedQuotient] at hdiv
  omega

theorem roundedQuotient_lt_iff {p q : Int} (hq : 0 < q) (n : Int) :
    roundedQuotient p q < n ↔ 131072 * p + q < 2 * n * q := by
  rw [roundedQuotient, Int.ediv_lt_iff_lt_mul (by omega),
    show 2 * p * 65536 = 131072 * p by ring, show n * (2 * q) = 2 * n * q by ring]

theorem roundedQuotient_mono {p p' q : Int} (hq : 0 < q) (h : p ≤ p') :
    roundedQuotient p q ≤ roundedQuotient p' q :=
  Int.ediv_le_ediv (by omega) (by omega)

theorem roundedQuotient_self {q : Int} (hq : 0 < q) : roundedQuotient q q = 65536 := by
  have hlo := (roundedQuotient_lt_iff (p := q) hq 65536).not
  have hhi := roundedQuotient_lt_iff (p := q) hq 65537
  omega

theorem roundedQuotient_one (p : Int) : roundedQuotient p 65536 = p := by
  unfold roundedQuotient
  omega

/-- The common factor `65536` of a code and 4095.0 cancels (rule R110). -/
theorem roundedQuotient_code (c : Int) :
    roundedQuotient (c * 65536) (4095 * 65536) = (2 * c * 65536 + 4095) / 8190 := by
  unfold roundedQuotient
  omega

/-! Rounding to nearest -/

/-- Settles O24: the floor's error over the integers, then the narrowing on each side of the
range. -/
theorem multiplyRoundsToNearest : Obligations.MultiplyRoundsToNearest := by
  intro a b
  rw [fxMul_eq_sat32]
  refine ⟨fun hrange => ?inRange, fun hlow => ?below, fun hhigh => ?above⟩
  case inRange =>
    rw [toInt_sat32_of_range (by omega) (by omega)]
    omega
  case below => exact sat32_of_lt (by omega)
  case above => exact sat32_of_gt (by omega)

/-- Settles O25: every clause on a divisor other than zero is about the quotient of the normalised
pair, and the bounds in the statement are those of the range for that quotient. -/
theorem divideRoundsToNearest : Obligations.DivideRoundsToNearest := by
  refine ⟨fun a b p q hq hsign => ?nonzero, fun a b => fxDiv_of_zero,
    fun a b a' b' => fxDiv_neg_neg, ?corner⟩
  case nonzero =>
    rw [fxDiv_eq_sat32 hq hsign]
    have hmin := roundedQuotient_lt_iff (p := p) hq (-2147483648)
    have hmax := roundedQuotient_lt_iff (p := p) hq 2147483648
    refine ⟨fun hrange => ?inRange, fun hlow => ?below, fun hhigh => ?above⟩
    case inRange =>
      rw [toInt_sat32_of_range (by omega) (by omega)]
      exact roundedQuotient_error hq
    case below => exact sat32_of_lt (by omega)
    case above => exact sat32_of_gt (by omega)
  case corner => rfl

/-! Monotonicity -/

theorem toInt_fxMul_mono {a a' b : Fix} (h : a.toInt ≤ a'.toInt) (hb : 0 ≤ b.toInt) :
    (fxMul a b).toInt ≤ (fxMul a' b).toInt := by
  have hprod : a.toInt * b.toInt ≤ a'.toInt * b.toInt := Int.mul_le_mul_of_nonneg_right h hb
  rw [fxMul_eq_sat32, fxMul_eq_sat32]
  exact toInt_sat32_mono (by omega)

theorem toInt_fxDiv_mono {a a' b : Fix} (h : a.toInt ≤ a'.toInt) (hb : 0 < b.toInt) :
    (fxDiv a b).toInt ≤ (fxDiv a' b).toInt := by
  rw [fxDiv_of_pos hb, fxDiv_of_pos hb]
  exact toInt_sat32_mono (roundedQuotient_mono hb h)

/-- Settles O26: what is narrowed is monotone, and the narrowing is; the last three are `min` and
`max` of the integers. -/
theorem arithmeticIsMonotone : Obligations.ArithmeticIsMonotone := by
  intro a a' b h
  refine ⟨?add, ?sub, toInt_fxMul_mono h, toInt_fxDiv_mono h, ?min, ?max, fun lo hi => ?clamp⟩
  case add => exact toInt_sat32_mono (Int.add_le_add_right h _)
  case sub => exact toInt_sat32_mono (Int.sub_le_sub_right h _)
  case min =>
    rw [toInt_fxMin, toInt_fxMin]
    exact min_le_min_right _ h
  case max =>
    rw [toInt_fxMax, toInt_fxMax]
    exact max_le_max_right _ h
  case clamp =>
    rw [toInt_fxClamp, toInt_fxClamp]
    exact max_le_max_left _ (min_le_min_right _ h)

/-! Exactness -/

theorem fxMul_fxFromInt (a : Fix) {n : Int} (h1 : -32768 ≤ n) (h2 : n ≤ 32767) :
    fxMul a (fxFromInt n) = sat32 (a.toInt * n) := by
  rw [fxMul_eq_sat32, toInt_fxFromInt_of_range h1 h2, ← mul_assoc]
  congr 1
  omega

theorem fxOne_eq_fxFromInt : fxOne = fxFromInt 1 := by decide

theorem fxZero_eq_fxFromInt : fxZero = fxFromInt 0 := by decide

theorem fxMul_fxOne (a : Fix) : fxMul a fxOne = a := by
  rw [fxOne_eq_fxFromInt, fxMul_fxFromInt a (by decide) (by decide), mul_one, sat32_toInt]

theorem fxMul_fxZero (a : Fix) : fxMul a fxZero = fxZero := by
  rw [fxZero_eq_fxFromInt, fxMul_fxFromInt a (by decide) (by decide), mul_zero]
  rfl

theorem fxDiv_fxOne (a : Fix) : fxDiv a fxOne = a := by
  rw [fxDiv_of_pos (by decide), toInt_fxOne, roundedQuotient_one, sat32_toInt]

theorem fxDiv_self {a : Fix} (h : a ≠ fxZero) : fxDiv a a = fxOne := by
  have h0 : a.toInt ≠ 0 := fun h0 => h (BitVec.eq_of_toInt_eq h0)
  obtain ⟨p, q, hq, hsign⟩ := exists_normalised a h0
  obtain rfl : p = q := by omega
  rw [fxDiv_eq_sat32 hq hsign, roundedQuotient_self hq]
  rfl

/-- Settles O27: in each law the integer that is narrowed is the exact one. -/
theorem arithmeticIsExactWhereStated : Obligations.ArithmeticIsExactWhereStated :=
  ⟨fun a _ h1 h2 => fxMul_fxFromInt a (by omega) h2,
    fun a => ⟨fxMul_fxOne a, fxMul_fxZero a, fxDiv_fxOne a⟩,
    fun _ => fxDiv_self,
    fun _ _ => toInt_sat32_of_range,
    fun _ _ => toInt_sat32_of_range⟩

/-! `norm` (rule R110) -/

theorem fxAdcMax_toInt_eq : fxAdcMax.toInt = 4095 * 65536 := by decide

theorem toInt_norm_closed_form (c : Code) :
    (norm c).toInt = (2 * c.toNat * 65536 + 4095) / 8190 := by
  have hc := code_toNat_le c
  rw [norm, fxDiv_of_pos (by decide), toInt_fxFromInt_of_range (by omega) (by omega),
    fxAdcMax_toInt_eq, roundedQuotient_code]
  exact toInt_sat32_of_range (by omega) (by omega)

/-- Settles O28, by the closed form and the bound on a code. -/
theorem normMapsCodesToTheUnitInterval : Obligations.NormMapsCodesToTheUnitInterval := by
  refine ⟨fun c => ⟨toInt_norm_closed_form c, ?range⟩, fun c c' h => ?mono, ?zero, ?full⟩
  case range =>
    have hc := code_toNat_le c
    rw [toInt_norm_closed_form]
    omega
  case mono =>
    rw [toInt_norm_closed_form, toInt_norm_closed_form]
    omega
  all_goals exact BitVec.eq_of_toInt_eq (toInt_norm_closed_form _)

end Sys2Proof.Machine
end

section
/-! PROOFS. The family of spec/41_pitch_resolver.md. First the resolver's functions as the raw
integers of the reference, the comparison of rule R134 on naturals and the follower's pitch in each
of its two modes; then the ranges of a voltage scaled by a normalised code, which rule R138 adds up. -/

namespace Sys2Proof.Machine

theorem exec_resl_eq (s : State) :
    exec .resl s = .next { s with stage := 2#5, work := { s.work with pl := leaderPitch s } } :=
  execResl_eq s

theorem exec_resf_eq (s : State) :
    exec .resf s = .next { s with
      stage := 3#5
      work := { s.work with pf := followerPitch s, follow := !followerOverrides s } } :=
  execResf_eq s

/-! The knob bounds of each channel (rule R25) -/

@[simp] theorem Settings.knobMin_leader (t : Settings) : t.knobMin .leader = t.knobMinL := rfl

@[simp] theorem Settings.knobMin_follower (t : Settings) : t.knobMin .follower = t.knobMinF := rfl

@[simp] theorem Settings.knobMax_leader (t : Settings) : t.knobMax .leader = t.knobMaxL := rfl

@[simp] theorem Settings.knobMax_follower (t : Settings) : t.knobMax .follower = t.knobMaxF := rfl

/-! The resolver's functions over the integers (rules R130 to R133) -/

@[simp] theorem toInt_adcCorrect (v offset gain : Fix) :
    (adcCorrect v offset gain).toInt = refCorrect v.toInt offset.toInt gain.toInt := by
  rw [adcCorrect, toInt_fxMul, toInt_fxSub, refCorrect]

@[simp] theorem toInt_cvBase (t : Settings) (c : Code) :
    (cvBase t c).toInt = refCvBase t.cvBaseOffset.toInt t.cvInputRange.toInt c.toNat := by
  simp [cvBase, refCvBase, Settings.get]

@[simp] theorem toInt_knobFine (t : Settings) (knobRange : Fix) (ch : Chan) (c : Code) :
    (knobFine t knobRange ch c).toInt =
      refKnobFine t.knobCalOffset.toInt t.knobCalGain.toInt (t.knobMin ch).toInt knobRange.toInt
        c.toNat := by
  simp [knobFine, refKnobFine, Settings.get]

theorem leaderPitch_eq (s : State) :
    leaderPitch s = fxAdd (cvBase s.settings (inv s.work.samples.cvL))
      (knobFine s.settings s.oscL.knobRange .leader (inv s.work.samples.knobL)) := rfl

theorem toInt_leaderPitch (s : State) :
    (leaderPitch s).toInt =
      refLeaderPitch s.settings s.oscL.knobRange.toInt s.work.samples := by
  rw [leaderPitch_eq]
  simp [refLeaderPitch]

/-- Settles O12: `leaderPitch` is the reference's over the integers, and RESL is one update of the
record. -/
theorem reslResolvesTheLeader : Obligations.ReslResolvesTheLeader :=
  ⟨rfl, fun s => ⟨_, exec_resl_eq s, toInt_leaderPitch s, rfl⟩⟩

/-! Follow mode or override (rule R134) -/

theorem threshold_toNat (t : Settings) :
    t.threshold.toNat = t.followerThreshold.toNat % 4096 := by
  simp [Settings.threshold, Settings.get]

theorem followerOverrides_iff (s : State) :
    followerOverrides s = true ↔
      s.settings.followerThreshold.toNat % 4096 < (inv s.work.samples.cvF).toNat := by
  rw [followerOverrides, overrides, BitVec.ult_iff_lt, BitVec.lt_def, threshold_toNat,
    AdcCodes.get]

theorem followerOverrides_eq_false_iff (s : State) :
    followerOverrides s = false ↔
      (inv s.work.samples.cvF).toNat ≤ s.settings.followerThreshold.toNat % 4096 := by
  rw [← Bool.not_eq_true, followerOverrides_iff, not_lt]

theorem not_followerOverrides (s : State) :
    (!followerOverrides s) = refFollows s.settings s.work.samples := by
  rw [Bool.eq_iff_iff, Bool.not_eq_true', followerOverrides_eq_false_iff, refFollows,
    decide_eq_true_iff, ← toNat_inv, Int.ofNat_le]

theorem followerPitch_eq (s : State) :
    followerPitch s = fxAdd (followerBase s)
      (knobFine s.settings s.oscF.knobRange .follower (inv s.work.samples.knobF)) := rfl

theorem followerBase_of_follow {s : State} (h : followerOverrides s = false) :
    followerBase s = s.work.pl := by
  simp [followerBase, h]

theorem followerBase_of_override {s : State} (h : followerOverrides s = true) :
    followerBase s = cvBase s.settings (inv s.work.samples.cvF) := by
  simp [followerBase, h, AdcCodes.get]

theorem toInt_followerBase (s : State) :
    (followerBase s).toInt =
      if refFollows s.settings s.work.samples then s.work.pl.toInt
      else refCvBase s.settings.cvBaseOffset.toInt s.settings.cvInputRange.toInt
        (refInv s.work.samples.cvF.toNat) := by
  rw [← not_followerOverrides]
  cases h : followerOverrides s with
  | false => simp [followerBase_of_follow h]
  | true => simp [followerBase_of_override h]

theorem toInt_followerPitch (s : State) :
    (followerPitch s).toInt =
      refFollowerPitch s.settings s.oscF.knobRange.toInt s.work.pl.toInt s.work.samples := by
  rw [followerPitch_eq, toInt_fxAdd, toInt_followerBase]
  simp [refFollowerPitch]

/-- Settles O13: the model's mode bit and `followerPitch` are the reference's, and RESF is one update
of the record. -/
theorem resfResolvesTheFollower : Obligations.ResfResolvesTheFollower :=
  ⟨rfl, fun s => ⟨_, exec_resf_eq s, not_followerOverrides s, toInt_followerPitch s, rfl⟩⟩

/-- Settles O29: below the threshold the follower's base is `W.PL`. -/
theorem followModeTracksTheLeader : Obligations.FollowModeTracksTheLeader := by
  intro s hcode
  have hfollow := (followerOverrides_eq_false_iff s).2 hcode
  refine ⟨_, exec_resf_eq s, ?mode, ?pitch⟩
  case mode => simp [hfollow]
  case pitch => rw [followerPitch_eq, followerBase_of_follow hfollow]

/-! Override depends on the follower's own inputs (rule R136) -/

theorem ParametersFromSettings.knobRange_eq {s : State} (h : ParametersFromSettings s)
    (hstage : s.stage ≠ 16#5) (c : Chan) :
    (s.osc c).knobRange = fxSub (s.settings.knobMax c) (s.settings.knobMin c) := by
  obtain ⟨_, _, hrange⟩ := h hstage c
  exact hrange

/-- In override the pitch is a function of the Settings and the follower's two samples: the knob
range is the one INIT derived from the Settings. -/
theorem followerPitch_of_override {s : State} (hstage : s.stage = 2#5)
    (hparams : ParametersFromSettings s) (h : followerOverrides s = true) :
    followerPitch s = fxAdd (cvBase s.settings (inv s.work.samples.cvF))
      (knobFine s.settings
        (fxSub (s.settings.knobMax .follower) (s.settings.knobMin .follower)) .follower
        (inv s.work.samples.knobF)) := by
  have hrange := hparams.knobRange_eq (by simp [hstage]) .follower
  rw [State.osc_follower] at hrange
  rw [followerPitch_eq, followerBase_of_override h, hrange]

/-- Settles O30: both states are in override, where the pitch is the same function of what they
share. -/
theorem overrideIgnoresTheLeader : Obligations.OverrideIgnoresTheLeader := by
  intro s s' hstage hstage' hparams hparams' hsettings hcv hknob hcode
  have hover := (followerOverrides_iff s).2 hcode
  have hover' : followerOverrides s' = true := by
    rwa [followerOverrides_iff, ← hsettings, ← hcv]
  refine ⟨_, _, exec_resf_eq s, exec_resf_eq s', ?pitch, by simp [hover], by simp [hover']⟩
  case pitch =>
    change followerPitch s = followerPitch s'
    rw [followerPitch_of_override hstage hparams hover,
      followerPitch_of_override hstage' hparams' hover', hsettings, hcv, hknob]

/-! The range of the leader's pitch (rule R138) -/

theorem fxMul_comm (a b : Fix) : fxMul a b = fxMul b a := by
  rw [fxMul_eq_sat32, fxMul_eq_sat32, mul_comm]

/-- A non-negative voltage scaled by a normalised code lies between 0.0 and itself: the product is
monotone in the code, and exact at both its ends. -/
theorem toInt_fxMul_norm_range {a : Fix} (ha : 0 ≤ a.toInt) (c : Code) :
    0 ≤ (fxMul a (norm c)).toInt ∧ (fxMul a (norm c)).toInt ≤ a.toInt := by
  obtain ⟨_, hnonneg, hle⟩ := normMapsCodesToTheUnitInterval.1 c
  have hlow : (fxMul fxZero a).toInt ≤ (fxMul (norm c) a).toInt := toInt_fxMul_mono hnonneg ha
  have hhigh : (fxMul (norm c) a).toInt ≤ (fxMul fxOne a).toInt := toInt_fxMul_mono hle ha
  rw [fxMul_comm, fxMul_fxZero, toInt_fxZero] at hlow
  rw [fxMul_comm fxOne, fxMul_fxOne] at hhigh
  rw [fxMul_comm]
  exact ⟨hlow, hhigh⟩

theorem toInt_fxAdd_of_range {a b : Fix} (h1 : -2147483648 ≤ a.toInt + b.toInt)
    (h2 : a.toInt + b.toInt ≤ 2147483647) : (fxAdd a b).toInt = a.toInt + b.toInt :=
  toInt_sat32_of_range h1 h2

theorem toInt_fxSub_of_range {a b : Fix} (h1 : -2147483648 ≤ a.toInt - b.toInt)
    (h2 : a.toInt - b.toInt ≤ 2147483647) : (fxSub a b).toInt = a.toInt - b.toInt :=
  toInt_sat32_of_range h1 h2

/-- A voltage plus a non-negative one scaled by a normalised code lies between the two ends of the
scale, unless the upper end is out of range. -/
theorem toInt_fxAdd_fxMul_norm_range {lo width : Fix} (hwidth : 0 ≤ width.toInt)
    (hhi : lo.toInt + width.toInt ≤ 2147483647) (c : Code) :
    lo.toInt ≤ (fxAdd lo (fxMul width (norm c))).toInt ∧
      (fxAdd lo (fxMul width (norm c))).toInt ≤ lo.toInt + width.toInt := by
  obtain ⟨hscaled, hscaled'⟩ := toInt_fxMul_norm_range hwidth c
  have hlo := fix_toInt_bounds lo
  rw [toInt_fxAdd_of_range (by omega) (by omega)]
  omega

theorem adcCorrect_identity (v : Fix) : adcCorrect v fxZero fxOne = v := by
  rw [adcCorrect, fxMul_fxOne, fxSub, toInt_fxZero, sub_zero, sat32_toInt]

theorem knobFine_of_identity {t : Settings} (hoffset : t.knobCalOffset = fxZero)
    (hgain : t.knobCalGain = fxOne) (knobRange : Fix) (ch : Chan) (c : Code) :
    knobFine t knobRange ch c = fxAdd (t.knobMin ch) (fxMul knobRange (norm c)) := by
  rw [knobFine, Settings.get, Settings.get, hoffset, hgain, adcCorrect_identity, norm]

theorem cvBase_range {t : Settings} (hrange : 0 ≤ t.cvInputRange.toInt)
    (htop : t.cvBaseOffset.toInt + t.cvInputRange.toInt ≤ 2147483647) (c : Code) :
    t.cvBaseOffset.toInt ≤ (cvBase t c).toInt ∧
      (cvBase t c).toInt ≤ t.cvBaseOffset.toInt + t.cvInputRange.toInt :=
  toInt_fxAdd_fxMul_norm_range hrange htop c

theorem knobFine_range {t : Settings} (hoffset : t.knobCalOffset = fxZero)
    (hgain : t.knobCalGain = fxOne) {ch : Chan}
    (horder : (t.knobMin ch).toInt ≤ (t.knobMax ch).toInt)
    (hspan : (t.knobMax ch).toInt - (t.knobMin ch).toInt ≤ 2147483647) (c : Code) :
    (t.knobMin ch).toInt ≤ (knobFine t (fxSub (t.knobMax ch) (t.knobMin ch)) ch c).toInt ∧
      (knobFine t (fxSub (t.knobMax ch) (t.knobMin ch)) ch c).toInt ≤ (t.knobMax ch).toInt := by
  have hwidth : (fxSub (t.knobMax ch) (t.knobMin ch)).toInt =
      (t.knobMax ch).toInt - (t.knobMin ch).toInt := toInt_fxSub_of_range (by omega) hspan
  have hmax := fix_toInt_bounds (t.knobMax ch)
  have hscale := toInt_fxAdd_fxMul_norm_range (lo := t.knobMin ch)
    (width := fxSub (t.knobMax ch) (t.knobMin ch)) (by omega) (by omega) c
  rw [knobFine_of_identity hoffset hgain]
  omega

/-- Settles O31: the base and the fine tune each lie in their range, and no sum of the two is out of
range. -/
theorem leaderPitchRange : Obligations.LeaderPitchRange := by
  intro s hoffset hgain hrange horder hknob hspan htop hlow hhigh
  have hbase := cvBase_range hrange htop (inv s.work.samples.cvL)
  have hfine := knobFine_range (ch := .leader) hoffset hgain horder hspan
    (inv s.work.samples.knobL)
  rw [Settings.knobMin_leader, Settings.knobMax_leader, ← hknob] at hfine
  refine ⟨_, exec_resl_eq s, ?_⟩
  change _ ≤ (leaderPitch s).toInt ∧ (leaderPitch s).toInt ≤ _
  rw [leaderPitch_eq, toInt_fxAdd_of_range (by omega) (by omega)]
  omega

end Sys2Proof.Machine
end

section
/-! PROOFS. The family of spec/42_smoothing.md. First the filter over the integers; then the rounded
product of a gain and a distance, from which what one stage does with a gain in [0, 1.0] is read off;
then the adaptive gain, which is such a gain; and last the whole step, its fixed points, and the
distance that decreases until one is reached. -/

namespace Sys2Proof.Machine

theorem exec_smthl_eq (s : State) :
    exec .smthl s = .next { s with
      stage := 4#5
      work := { s.work with sl := (smoothStep s.oscL s.work.pl).lp2 }
      oscL := smoothStep s.oscL s.work.pl } :=
  execSmthl_eq s

theorem exec_smthf_eq (s : State) :
    exec .smthf s = .next { s with
      stage := 5#5
      work := { s.work with sf := (smoothStep s.oscF s.work.pf).lp2 }
      oscF := smoothStep s.oscF s.work.pf } :=
  execSmthf_eq s

/-! The filter over the integers (rule R151) -/

theorem smoothStep_lp1 (o : Osc) (x : Fix) :
    (smoothStep o x).lp1 = stageToward (smoothGain o) x o.lp1 := rfl

/-- The second stage moves toward the new value of the first. -/
theorem smoothStep_lp2 (o : Osc) (x : Fix) :
    (smoothStep o x).lp2 = stageToward (smoothGain o) (smoothStep o x).lp1 o.lp2 := rfl

theorem toInt_smoothGain (o : Osc) :
    (smoothGain o).toInt = refGain o.g0.toInt o.sens.toInt o.lp1.toInt o.lp2.toInt := by
  simp [smoothGain, refGain]

theorem toInt_stageToward (g x lp : Fix) :
    (stageToward g x lp).toInt =
      refAdd lp.toInt (refMul g.toInt (refSub x.toInt lp.toInt)) := by
  simp [stageToward]

theorem toInt_smoothStep (o : Osc) (x : Fix) :
    ((smoothStep o x).lp1.toInt, (smoothStep o x).lp2.toInt) =
      refSmooth o.g0.toInt o.sens.toInt o.lp1.toInt o.lp2.toInt x.toInt := by
  simp only [smoothStep_lp2, smoothStep_lp1, toInt_stageToward, toInt_smoothGain, refSmooth]

/-- Settles O14: SMTHL and SMTHF are one update of the record each, with `smoothStep` of their own
filter. -/
theorem smoothingStepsItsOwnFilter : Obligations.SmoothingStepsItsOwnFilter :=
  ⟨rfl, rfl, fun s => ⟨_, exec_smthl_eq s, toInt_smoothStep _ _, rfl⟩,
    fun s => ⟨_, exec_smthf_eq s, toInt_smoothStep _ _, rfl⟩⟩

/-! The rounded product over the integers (rule R105) -/

/-- The product of rule R105 rounded to nearest, before saturation. -/
def roundedProduct (a b : Int) : Int := (a * b + 32768) / 65536

theorem fxMul_eq_roundedProduct (a b : Fix) :
    fxMul a b = sat32 (roundedProduct a.toInt b.toInt) := rfl

theorem roundedProduct_eq_zero_iff (a b : Int) :
    roundedProduct a b = 0 ↔ -32768 ≤ a * b ∧ a * b < 32768 := by
  unfold roundedProduct
  omega

theorem roundedProduct_le_of_nonneg {g g' d : Int} (h : g ≤ g') (hd : 0 ≤ d) :
    roundedProduct g d ≤ roundedProduct g' d := by
  have hprod : g * d ≤ g' * d := Int.mul_le_mul_of_nonneg_right h hd
  unfold roundedProduct
  omega

theorem roundedProduct_le_of_nonpos {g g' d : Int} (h : g ≤ g') (hd : d ≤ 0) :
    roundedProduct g' d ≤ roundedProduct g d := by
  have hprod : g' * d ≤ g * d := Int.mul_le_mul_of_nonpos_right h hd
  unfold roundedProduct
  omega

theorem roundedProduct_zero (d : Int) : roundedProduct 0 d = 0 := by
  simp [roundedProduct]

theorem roundedProduct_one (d : Int) : roundedProduct 65536 d = d := by
  unfold roundedProduct
  omega

/-- A gain in [0, 1.0] takes a distance to something between 0 and itself: the product is monotone in
the gain, and exact at both its ends. -/
theorem roundedProduct_between {g : Int} (hg : 0 ≤ g) (hg1 : g ≤ 65536) (d : Int) :
    min 0 d ≤ roundedProduct g d ∧ roundedProduct g d ≤ max 0 d := by
  have hzero := roundedProduct_zero d
  have hone := roundedProduct_one d
  obtain hd | hd := le_total 0 d
  · have hlow := roundedProduct_le_of_nonneg hg hd
    have hhigh := roundedProduct_le_of_nonneg hg1 hd
    omega
  · have hlow := roundedProduct_le_of_nonpos hg1 hd
    have hhigh := roundedProduct_le_of_nonpos hg hd
    omega

/-! One stage (rules R155 (a) and R156) -/

/-- The distance a stage works with has the sign of the exact one and is no larger. -/
theorem toInt_fxSub_between (x lp : Fix) :
    min 0 (x.toInt - lp.toInt) ≤ (fxSub x lp).toInt ∧
      (fxSub x lp).toInt ≤ max 0 (x.toInt - lp.toInt) := by
  rw [toInt_fxSub, refSub, refSat]
  omega

section
variable {g x lp : Fix} (hg : 0 ≤ g.toInt) (hg1 : g.toInt ≤ 65536)
include hg hg1

/-- Neither the product nor the sum of a stage saturates; only its distance can. -/
theorem toInt_stageToward_of_gain :
    (stageToward g x lp).toInt =
      lp.toInt + roundedProduct g.toInt (fxSub x lp).toInt := by
  have hmove := roundedProduct_between hg hg1 (fxSub x lp).toInt
  have hdist := toInt_fxSub_between x lp
  have hfix := fix_toInt_bounds (fxSub x lp)
  have hx := fix_toInt_bounds x
  have hlp := fix_toInt_bounds lp
  have hmul : (fxMul g (fxSub x lp)).toInt = roundedProduct g.toInt (fxSub x lp).toInt := by
    rw [fxMul_eq_roundedProduct, toInt_sat32_of_range (by omega) (by omega)]
  rw [stageToward, toInt_fxAdd_of_range (by omega) (by omega), hmul]

theorem toInt_stageToward_between :
    min lp.toInt x.toInt ≤ (stageToward g x lp).toInt ∧
      (stageToward g x lp).toInt ≤ max lp.toInt x.toInt := by
  have hmove := roundedProduct_between hg hg1 (fxSub x lp).toInt
  have hdist := toInt_fxSub_between x lp
  rw [toInt_stageToward_of_gain hg hg1]
  omega

theorem stageToward_eq_self_iff :
    stageToward g x lp = lp ↔
      -32768 ≤ g.toInt * (fxSub x lp).toInt ∧ g.toInt * (fxSub x lp).toInt < 32768 := by
  rw [← roundedProduct_eq_zero_iff, ← BitVec.toInt_inj, toInt_stageToward_of_gain hg hg1,
    add_eq_left]

/-- A stage that moves comes strictly closer to its target. -/
theorem stageToward_closer (hmoves : stageToward g x lp ≠ lp) :
    (x.toInt - (stageToward g x lp).toInt).natAbs < (x.toInt - lp.toInt).natAbs := by
  have hbetween := toInt_stageToward_between (x := x) (lp := lp) hg hg1
  have hne : (stageToward g x lp).toInt ≠ lp.toInt := fun h => hmoves (BitVec.eq_of_toInt_eq h)
  omega

end

/-- With a larger gain the stage moves farther to the same side, and still does not overshoot. -/
theorem stageToward_distance_antitone {g g' : Fix} (x lp : Fix) (hg : 0 ≤ g.toInt)
    (hgg' : g.toInt ≤ g'.toInt) (hg' : g'.toInt ≤ 65536) :
    |x.toInt - (stageToward g' x lp).toInt| ≤ |x.toInt - (stageToward g x lp).toInt| := by
  have hbetween := toInt_stageToward_between (x := x) (lp := lp) hg (hgg'.trans hg')
  have hbetween' := toInt_stageToward_between (x := x) (lp := lp) (hg.trans hgg') hg'
  have hdist := toInt_fxSub_between x lp
  have hstage := toInt_stageToward_of_gain (x := x) (lp := lp) hg (hgg'.trans hg')
  have hstage' := toInt_stageToward_of_gain (x := x) (lp := lp) (hg.trans hgg') hg'
  rw [abs_eq_max_neg, abs_eq_max_neg]
  obtain hside | hside := le_total lp.toInt x.toInt
  · have hmove := roundedProduct_le_of_nonneg hgg' (by omega : 0 ≤ (fxSub x lp).toInt)
    omega
  · have hmove := roundedProduct_le_of_nonpos hgg' (by omega : (fxSub x lp).toInt ≤ 0)
    omega

/-- Settles O33. -/
theorem stageNeverOvershoots : Obligations.StageNeverOvershoots := by
  intro g x lp hg hg1
  obtain ⟨hlow, hhigh⟩ := toInt_stageToward_between (x := x) (lp := lp) hg hg1
  exact ⟨hlow, hhigh, fun g' => stageToward_distance_antitone x lp hg⟩

/-- Settles O34: a distance in range is the exact one. -/
theorem stallBand : Obligations.StallBand := by
  intro g x lp hg hg1 hlow hhigh
  rw [stageToward_eq_self_iff hg.le hg1, toInt_fxSub_of_range hlow hhigh]

/-! The adaptive gain (rules R151 and R156) -/

theorem toInt_fxAbs_nonneg (a : Fix) : 0 ≤ (fxAbs a).toInt := by
  have habs := abs_nonneg a.toInt
  rw [toInt_fxAbs, refAbs, refSat]
  omega

/-- The term the sensitivity adds to the gain is never negative. -/
theorem toInt_fxMul_fxAbs_nonneg {z : Fix} (hz : 0 ≤ z.toInt) (d : Fix) :
    0 ≤ (fxMul z (fxAbs d)).toInt := by
  have hmono : (fxMul fxZero (fxAbs d)).toInt ≤ (fxMul z (fxAbs d)).toInt :=
    toInt_fxMul_mono hz (toInt_fxAbs_nonneg d)
  rwa [fxMul_comm, fxMul_fxZero, toInt_fxZero] at hmono

theorem toInt_smoothGain_le_one (o : Osc) : (smoothGain o).toInt ≤ 65536 := by
  rw [smoothGain, toInt_fxMin, toInt_fxOne]
  omega

theorem g0_le_toInt_smoothGain {o : Osc} (hg0 : o.g0.toInt ≤ 65536) (hsens : 0 ≤ o.sens.toInt) :
    o.g0.toInt ≤ (smoothGain o).toInt := by
  have hadded := toInt_fxMul_fxAbs_nonneg hsens (fxSub o.lp1 o.lp2)
  have hfix := fix_toInt_bounds o.g0
  rw [smoothGain, toInt_fxMin, toInt_fxOne, toInt_fxAdd, refAdd, refSat]
  omega

theorem fxAdd_fxZero (a : Fix) : fxAdd a fxZero = a := by
  rw [fxAdd, toInt_fxZero, add_zero, sat32_toInt]

theorem smoothGain_of_insensitive {o : Osc} (hg0 : o.g0.toInt ≤ 65536) (hsens : o.sens = fxZero) :
    smoothGain o = o.g0 := by
  rw [smoothGain, hsens, fxMul_comm, fxMul_fxZero, fxAdd_fxZero, fxMin, toInt_fxOne, if_pos hg0]

theorem toInt_smoothGain_mono (o : Osc) {z : Fix} (h : o.sens.toInt ≤ z.toInt) :
    (smoothGain o).toInt ≤ (smoothGain { o with sens := z }).toInt := by
  have hadded := toInt_fxMul_mono h (toInt_fxAbs_nonneg (fxSub o.lp1 o.lp2))
  simp only [smoothGain, toInt_fxMin, fxAdd]
  exact min_le_min_right _ (toInt_sat32_mono (Int.add_le_add_left hadded _))

/-- Settles O32. -/
theorem gainAdaptsBetweenItsBounds : Obligations.GainAdaptsBetweenItsBounds := by
  intro o _ hg0 hsens
  exact ⟨g0_le_toInt_smoothGain hg0 hsens, toInt_smoothGain_le_one o,
    smoothGain_of_insensitive hg0, fun z => toInt_smoothGain_mono o⟩

/-! Fixed points (rule R155 (c)) -/

theorem smoothStep_eq_self_iff (o : Osc) (x : Fix) :
    smoothStep o x = o ↔
      stageToward (smoothGain o) x o.lp1 = o.lp1 ∧
      stageToward (smoothGain o) o.lp1 o.lp2 = o.lp2 := by
  constructor
  · intro hfix
    have hlp1 : stageToward (smoothGain o) x o.lp1 = o.lp1 := congrArg Osc.lp1 hfix
    have hlp2 : stageToward (smoothGain o) (stageToward (smoothGain o) x o.lp1) o.lp2 = o.lp2 :=
      congrArg Osc.lp2 hfix
    rw [hlp1] at hlp2
    exact ⟨hlp1, hlp2⟩
  · rintro ⟨hlp1, hlp2⟩
    simp only [smoothStep, hlp1, hlp2]

/-- A saturated distance lies outside the stall band. -/
theorem toInt_fxSub_of_stall {g x lp : Fix} (hg : 0 < g.toInt) (hg1 : g.toInt ≤ 65536)
    (hstall : stageToward g x lp = lp) : (fxSub x lp).toInt = x.toInt - lp.toInt := by
  obtain ⟨hlow, hhigh⟩ := (stageToward_eq_self_iff hg.le hg1).1 hstall
  have hmin : -32768 ≤ (fxSub x lp).toInt := by nlinarith
  have hmax : (fxSub x lp).toInt ≤ 32768 := by nlinarith
  have hdist := toInt_fxSub x lp
  rw [refSub, refSat] at hdist
  omega

theorem abs_sub_le_of_stall {b : Int} {g x lp : Fix} (hb : 0 < b) (hbg : b ≤ g.toInt)
    (hg1 : g.toInt ≤ 65536) (hstall : stageToward g x lp = lp) :
    |x.toInt - lp.toInt| ≤ 32768 / b := by
  have hg : 0 < g.toInt := hb.trans_le hbg
  obtain ⟨hlow, hhigh⟩ := (stageToward_eq_self_iff hg.le hg1).1 hstall
  rw [toInt_fxSub_of_stall hg hg1 hstall] at hlow hhigh
  rw [Int.le_ediv_iff_mul_le hb]
  calc |x.toInt - lp.toInt| * b
      ≤ |x.toInt - lp.toInt| * g.toInt := Int.mul_le_mul_of_nonneg_left hbg (abs_nonneg _)
    _ = |g.toInt * (x.toInt - lp.toInt)| := by rw [abs_mul, abs_of_pos hg, mul_comm]
    _ ≤ 32768 := abs_le.2 ⟨hlow, hhigh.le⟩

/-- Settles O35: each stage stalls within the band of the gain, which is no smaller than `g0`. -/
theorem fixedPointIsNearTheTarget : Obligations.FixedPointIsNearTheTarget := by
  intro o x hpos hg0 hsens hfix
  have hgain := g0_le_toInt_smoothGain hg0 hsens
  have hgain1 := toInt_smoothGain_le_one o
  obtain ⟨hstall1, hstall2⟩ := (smoothStep_eq_self_iff o x).1 hfix
  have hfirst := abs_sub_le_of_stall hpos hgain hgain1 hstall1
  have hsecond := abs_sub_le_of_stall hpos hgain hgain1 hstall2
  have htriangle := abs_sub_le x.toInt o.lp1.toInt o.lp2.toInt
  exact ⟨hfirst, hsecond, by omega⟩

/-! Reaching a fixed point (rules R155 (c) and R157) -/

/-- How far the two stages are from their targets, the first stage's distance counting first: only
when the first stage stands still does the second one's target stand still too. -/
def filterDistance (x : Fix) (o : Osc) : Nat × Nat :=
  ((x.toInt - o.lp1.toInt).natAbs, (o.lp1.toInt - o.lp2.toInt).natAbs)

theorem filterDistance_smoothStep_lt {o : Osc} {x : Fix} (hgain : 0 ≤ (smoothGain o).toInt)
    (hmoves : smoothStep o x ≠ o) :
    Prod.Lex (· < ·) (· < ·) (filterDistance x (smoothStep o x)) (filterDistance x o) := by
  have hgain1 := toInt_smoothGain_le_one o
  by_cases hlp1 : stageToward (smoothGain o) x o.lp1 = o.lp1
  case neg => exact .left _ _ (stageToward_closer hgain hgain1 hlp1)
  case pos =>
    have hlp2 : stageToward (smoothGain o) o.lp1 o.lp2 ≠ o.lp2 := fun hlp2 =>
      hmoves ((smoothStep_eq_self_iff o x).2 ⟨hlp1, hlp2⟩)
    simp only [filterDistance, smoothStep_lp2, smoothStep_lp1, hlp1]
    exact .right _ (stageToward_closer hgain hgain1 hlp2)

theorem exists_iterate_smoothStep_fixed (o : Osc) (x : Fix) (hpos : 0 < o.g0.toInt)
    (hg0 : o.g0.toInt ≤ 65536) (hsens : 0 ≤ o.sens.toInt) :
    ∃ n : Nat, smoothStep ((fun p => smoothStep p x)^[n] o) x =
      (fun p => smoothStep p x)^[n] o := by
  by_cases hfix : smoothStep o x = o
  case pos => exact ⟨0, hfix⟩
  case neg =>
    obtain ⟨n, hn⟩ := exists_iterate_smoothStep_fixed (smoothStep o x) x hpos hg0 hsens
    exact ⟨n + 1, hn⟩
termination_by filterDistance x o
decreasing_by
  exact filterDistance_smoothStep_lt (hpos.le.trans (g0_le_toInt_smoothGain hg0 hsens)) hfix

/-- Settles O36. -/
theorem filterReachesAFixedPoint : Obligations.FilterReachesAFixedPoint :=
  exists_iterate_smoothStep_fixed

/-! The parameters in every step (rule R150) -/

/-- Settles O51: a gap keeps the parameters or resets to stage 16, and an operation is INIT or keeps
them. -/
theorem everyStepKeepsTheParameters : Obligations.EveryStepKeepsTheParameters := by
  intro s t hs hstep
  exact step_preserves ParametersFromSettings (fun _ => runGap_parametersFromSettings)
    (fun _ _ _ => exec_parametersFromSettings) hs hstep

end Sys2Proof.Machine
end

section
/-! PROOFS. The family of spec/43_lfo.md. First the phase: the law of rule R174 through a step, the
advance modulo one cycle, and LFOADV. Then the increment per tick, the triangle, and the modulation:
its value, and its range as two products with factors in [0.0, 1.0]. -/

namespace Sys2Proof.Machine

/-! The phase law in every step (rule R174) -/

/-- Settles O50: a gap leaves the phase alone or resets it, and an operation advances it to the tick
it records or leaves it alone. -/
theorem everyStepKeepsThePhaseLaw : Obligations.EveryStepKeepsThePhaseLaw := by
  intro s t hs hstep
  exact step_preserves PhaseTracksTick (fun _ => runGap_phaseTracksTick)
    (fun _ _ _ _ => exec_phaseTracksTick) hs hstep

/-! The advance (rule R172) -/

theorem exec_lfoadv_eq (s : State) :
    exec .lfoadv s = .next { s with
      stage := 6#5
      lfo := lfoAdvance (lfoK s.settings.chorusFrequency) s.lfo s.input.tickNow } :=
  execLfoadv_eq s

theorem toInt_lfoK (f : Fix) : (lfoK f).toInt = refDiv f.toInt (refFromInt 1000) := by
  rw [lfoK, toInt_fxDiv, toInt_fxThousand]

theorem toNat_elapsed (now last : Tick) :
    ((now - last).toNat : Int) = (now.toNat - last.toNat) % 4294967296 := by
  rw [BitVec.toNat_sub]
  omega

/-- The advance is the reference's for the same increment per tick, whether or not a tick has
elapsed. -/
theorem lfoAdvance_eq_refAdvance (f : Fix) (l : Lfo) (now : Tick) :
    (((lfoAdvance (lfoK f) l now).phase.toNat : Int),
      ((lfoAdvance (lfoK f) l now).last.toNat : Int)) =
      refAdvance f.toInt l.phase.toNat l.last.toNat now.toNat := by
  rw [refAdvance, ← toNat_elapsed, ← toInt_lfoK, lfoAdvance]
  by_cases helapsed : 0 < (now - l.last).toNat
  case pos =>
    rw [if_pos helapsed, if_pos (Int.natCast_pos.2 helapsed), toNat_advancePhase]
  case neg =>
    rw [if_neg helapsed, if_neg (by omega)]

/-- Settles O15: LFOADV is one update of the record, with `lfoAdvance`. -/
theorem lfoadvAdvancesByElapsedTicks : Obligations.LfoadvAdvancesByElapsedTicks :=
  ⟨rfl, fun s => ⟨_, exec_lfoadv_eq s, lfoAdvance_eq_refAdvance _ _ _, rfl⟩⟩

/-! The advance modulo one cycle (rules R172 and R174) -/

theorem toNat_advancePhase_modEq (k : Fix) (p : Phase) (elapsed : Tick) :
    ((advancePhase k p elapsed).toNat : Int) ≡ p.toNat + k.toInt * elapsed.toNat [ZMOD 65536] := by
  rw [toNat_advancePhase]
  exact Int.mod_modEq _ _

theorem phase_eq_of_modEq {p q : Phase} (h : (p.toNat : Int) ≡ q.toNat [ZMOD 65536]) : p = q := by
  apply BitVec.eq_of_toNat_eq
  rw [Int.ModEq] at h
  omega

/-- The sum of two tick counts may wrap, which is no matter modulo one cycle. -/
theorem toNat_tick_add_modEq (e e' : Tick) :
    ((e + e').toNat : Int) ≡ e.toNat + e'.toNat [ZMOD 65536] := by
  rw [Int.ModEq, BitVec.toNat_add]
  omega

theorem toNat_advancePhase_low_bits (k : Fix) (p : Phase) (e : Tick) :
    ((advancePhase k p e).toNat : Int) =
      (p.toNat + (k.toInt % 65536) * (e.toNat % 65536 : Nat)) % 65536 := by
  have hk : k.toInt ≡ k.toInt % 65536 [ZMOD 65536] := (Int.mod_modEq _ _).symm
  have he : (e.toNat : Int) ≡ (e.toNat % 65536 : Nat) [ZMOD 65536] := (Int.mod_modEq _ _).symm
  rw [toNat_advancePhase]
  exact (hk.mul he).add_left _

theorem advancePhase_advancePhase (k : Fix) (p : Phase) (e e' : Tick) :
    advancePhase k (advancePhase k p e) e' = advancePhase k p (e + e') := by
  apply phase_eq_of_modEq
  calc ((advancePhase k (advancePhase k p e) e').toNat : Int)
      ≡ (advancePhase k p e).toNat + k.toInt * e'.toNat [ZMOD 65536] :=
        toNat_advancePhase_modEq _ _ _
    _ ≡ p.toNat + k.toInt * e.toNat + k.toInt * e'.toNat [ZMOD 65536] :=
        (toNat_advancePhase_modEq k p e).add_right _
    _ = p.toNat + k.toInt * (e.toNat + e'.toNat) := by ring
    _ ≡ p.toNat + k.toInt * (e + e').toNat [ZMOD 65536] :=
        ((toNat_tick_add_modEq e e').symm.mul_left _).add_left _
    _ ≡ (advancePhase k p (e + e')).toNat [ZMOD 65536] := (toNat_advancePhase_modEq _ _ _).symm

/-- Settles O37. -/
theorem phaseAdvanceIsLinear : Obligations.PhaseAdvanceIsLinear := fun k p e e' =>
  ⟨toNat_advancePhase k p e, toNat_advancePhase_low_bits k p e, advancePhase_advancePhase k p e e'⟩

/-! The increment per tick (rule R171) -/

/-- The quotient by 1000.0 is always in range, so nothing saturates. -/
theorem toInt_lfoK_closed_form (f : Fix) :
    (lfoK f).toInt = (2 * f.toInt * 65536 + 65536000) / 131072000 := by
  have hf := fix_toInt_bounds f
  have hthousand : fxThousand.toInt = 65536000 := by decide
  rw [lfoK, fxDiv_of_pos (by decide), hthousand, roundedQuotient]
  exact toInt_sat32_of_range (by omega) (by omega)

/-- Settles O38: half an increment is reached at 500 raw. -/
theorem phaseIncrementPerTick : Obligations.PhaseIncrementPerTick := by
  intro f hf
  refine ⟨toInt_lfoK_closed_form f, ?_⟩
  rw [toInt_lfoK_closed_form]
  omega

/-! The triangle (rule R175) -/

theorem toInt_fix_ofNat {n : Nat} (h : n ≤ 65536) : (BitVec.ofNat 32 n).toInt = n := by
  rw [BitVec.toInt_eq_toNat_of_lt] <;> rw [BitVec.toNat_ofNat] <;> omega

@[simp] theorem toInt_tri (p : Phase) : (tri p).toInt = refTri p.toNat := by
  rw [tri, refTri]
  by_cases hrising : p.toNat < 32768
  case pos =>
    rw [if_pos hrising, if_pos (by omega), toInt_fix_ofNat (by omega)]
    omega
  case neg =>
    rw [if_neg hrising, if_neg (by omega), toInt_fix_ofNat (by omega)]
    omega

theorem refTri_of_rising {p : Int} (h : p < 32768) : refTri p = 2 * p := if_pos h

theorem refTri_of_falling {p : Int} (h : 32768 ≤ p) : refTri p = 2 * (65536 - p) :=
  if_neg (not_lt.2 h)

theorem toInt_tri_range (p : Phase) : 0 ≤ (tri p).toInt ∧ (tri p).toInt ≤ 65536 := by
  rw [toInt_tri, refTri]
  omega

theorem toInt_tri_eq_one_iff (p : Phase) : (tri p).toInt = 65536 ↔ p.toNat = 32768 := by
  rw [toInt_tri, refTri]
  omega

/-- Negation exchanges the two slopes and fixes the phases 0 and one half. -/
theorem tri_neg (p : Phase) : tri (-p) = tri p := by
  apply BitVec.eq_of_toInt_eq
  rw [toInt_tri, toInt_tri, BitVec.toNat_neg, refTri, refTri]
  omega

/-- Settles O39. -/
theorem triangleIsUnipolar : Obligations.TriangleIsUnipolar := by
  intro p
  obtain ⟨hnonneg, hle⟩ := toInt_tri_range p
  refine ⟨fun h => ?rising, fun h => ?falling, hnonneg, hle, toInt_tri_eq_one_iff p, tri_neg p⟩
  case rising => rw [toInt_tri, refTri_of_rising (by omega)]
  case falling => rw [toInt_tri, refTri_of_falling (by omega)]

/-! The modulation (rules R176 and R177) -/

theorem exec_lfomod_eq (s : State) :
    exec .lfomod s = .next { s with
      stage := 7#5
      work := { s.work with mod := modulation s, ff := fxAdd s.work.sf (modulation s) } } :=
  execLfomod_eq s

theorem modulation_eq (s : State) :
    modulation s = fxMul (fxMul s.settings.chorusMaxIntensity (norm (inv s.work.samples.lfoKnob)))
      (tri s.lfo.phase) := rfl

theorem toInt_modulation (s : State) :
    (modulation s).toInt = refModulation s.settings.chorusMaxIntensity.toInt
      s.work.samples.lfoKnob.toNat s.lfo.phase.toNat := by
  simp [modulation_eq, refModulation]

/-- Settles O16: LFOMOD is one update of the record, with `modulation`. -/
theorem lfomodModulatesTheFollower : Obligations.LfomodModulatesTheFollower :=
  ⟨rfl, fun s => ⟨_, exec_lfomod_eq s, toInt_modulation s, toInt_fxAdd _ _, rfl⟩⟩

/-- A non-negative voltage times a factor in [0.0, 1.0] lies between 0.0 and itself. -/
theorem toInt_fxMul_unit_range {a b : Fix} (ha : 0 ≤ a.toInt) (hb : 0 ≤ b.toInt)
    (hb1 : b.toInt ≤ 65536) : 0 ≤ (fxMul a b).toInt ∧ (fxMul a b).toInt ≤ a.toInt := by
  have hbetween := roundedProduct_between hb hb1 a.toInt
  rw [min_eq_left ha, max_eq_right ha] at hbetween
  obtain ⟨hlow, hhigh⟩ := hbetween
  have hmax := fix_toInt_bounds a
  rw [fxMul_comm, fxMul_eq_roundedProduct, toInt_sat32_of_range (by omega) (by omega)]
  exact ⟨hlow, hhigh⟩

theorem toInt_modulation_range {s : State} (h : 0 ≤ s.settings.chorusMaxIntensity.toInt) :
    0 ≤ (modulation s).toInt ∧ (modulation s).toInt ≤ s.settings.chorusMaxIntensity.toInt := by
  obtain ⟨htri, htri1⟩ := toInt_tri_range s.lfo.phase
  obtain ⟨hdepth, hdepth1⟩ := toInt_fxMul_norm_range h (inv s.work.samples.lfoKnob)
  obtain ⟨hmod, hmod1⟩ := toInt_fxMul_unit_range hdepth htri htri1
  rw [modulation_eq]
  exact ⟨hmod, hmod1.trans hdepth1⟩

/-- The sample is inverted, so the highest code is the knob at zero. -/
theorem norm_inv_adcMax : norm (inv 4095#12) = fxZero := by decide

theorem modulation_of_knob_zero {s : State} (h : s.work.samples.lfoKnob = 4095#12) :
    modulation s = fxZero := by
  rw [modulation_eq, h, norm_inv_adcMax, fxMul_fxZero, fxMul_comm, fxMul_fxZero]

/-- Settles O40. -/
theorem modulationNeverExceedsTheIntensity : Obligations.ModulationNeverExceedsTheIntensity := by
  intro s hintensity
  obtain ⟨hnonneg, hle⟩ := toInt_modulation_range hintensity
  refine ⟨_, exec_lfomod_eq s, hnonneg, hle, fun hknob => ?zero⟩
  case zero =>
    have hmod := modulation_of_knob_zero hknob
    exact ⟨hmod, by simp only [hmod, fxAdd_fxZero]⟩

end Sys2Proof.Machine
end

section
/-! PROOFS. The family of spec/44_hard_sync.md. HSYNC as one update of the record in each of its two
cases; no other operation depends on `HS`; the parity through a step. -/

namespace Sys2Proof.Machine

/-! HSYNC (rules R192 and R194) -/

theorem exec_hsync_of_tap {s : State} (htap : s.input.tapPending = true) :
    exec .hsync s = .next { s with
      stage := nextStage .hsync s
      hs := !s.hs
      input := { s.input with tapPending := false }
      output := { s.output with hsOut := !s.hs, ledMode := !s.hs }
      trace := s.trace ++ [.hardSync (!s.hs), .ledMode (!s.hs)] } := by
  have hexec : exec .hsync s = .next ((consumeTap s).setStage (nextStage .hsync s)) := by
    simp only [exec, execHsync, htap, if_true, nextStage]
  rw [hexec, consumeTap_eq, List.append_assoc]
  rfl

theorem exec_hsync_of_no_tap {s : State} (htap : s.input.tapPending = false) :
    exec .hsync s = .next { s with stage := nextStage .hsync s } := by
  simp [exec, execHsync, htap, nextStage, State.setStage]

/-- Settles O17: the two cases, with the stage of rule R232 written out. -/
theorem hsyncTogglesOnATap : Obligations.HsyncTogglesOnATap :=
  ⟨rfl, fun _ => ⟨exec_hsync_of_tap, exec_hsync_of_no_tap⟩⟩

/-! The toggle is HSYNC's alone (rule R192) -/

/-- POLL is the one of these operations that branches, and its branch is on `adc_ready`; each of the
others is a chain of updates of registers beside `HS`. -/
theorem exec_with_hs {i : Instr} {s t : State} (hi : i ≠ .hsync) (he : exec i s = .next t)
    (b : Bool) : exec i { s with hs := b } = .next { t with hs := b } := by
  cases i with
  | hsync => exact absurd rfl hi
  | poll =>
    simp only [exec, execPoll] at he ⊢
    split at he
    case isTrue hready =>
      cases he
      exact if_pos hready
    case isFalse hready =>
      cases he
      exact if_neg hready
  | init =>
    rw [exec_init, execInit_eq] at he ⊢
    cases he
    rfl
  | _ =>
    cases he
    rfl

/-- Settles O45: written by HSYNC only (`OwnWritesOnly`), and read by HSYNC only (`exec_with_hs`). -/
theorem toggleDoesNotFeedThePitch : Obligations.ToggleDoesNotFeedThePitch := by
  intro i s b hi
  obtain ⟨t, ht, own⟩ := exec_goes_on i s
  obtain ⟨hhs, -, -⟩ := own.sync hi
  exact ⟨t, ht, hhs, exec_with_hs hi ht b⟩

/-! The parity in every step (rule R193) -/

/-- Settles O49: a gap notifies nothing or resets to no tap and no toggle, and an operation is HSYNC,
which counts the tap it toggles on, or notifies nothing. -/
theorem everyStepKeepsTheSyncParity : Obligations.EveryStepKeepsTheSyncParity := by
  intro s t hs hstep
  exact step_preserves SyncFollowsTaps (fun _ => runGap_syncFollowsTaps)
    (fun _ _ _ _ => exec_syncFollowsTaps) hs hstep

end Sys2Proof.Machine
end

section
/-! PROOFS. The family of spec/45_output_commit.md. First the clamp through a step and its operation;
then the duty codes; then each further operation of the commit as one update of the record; and last
the critical section, one step after the other. -/

namespace Sys2Proof.Machine

/-! The clamp (rules R200 and R210) -/

/-- Settles O52: a gap leaves the clamped voltages alone or resets the stage, an operation is CLAMP
or leaves them alone, and LOOKUP runs at stage 10, after the gap. -/
theorem everyLookupArgumentIsInRange : Obligations.EveryLookupArgumentIsInRange := by
  intro s t hs hstep
  refine ⟨?kept, fun hlookup => ?arguments⟩
  case kept =>
    exact step_preserves LookupArgumentsInRange (fun _ => runGap_lookupArgumentsInRange)
      (fun _ _ _ => exec_lookupArgumentsInRange) hs hstep
  case arguments =>
    exact runGap_lookupArgumentsInRange hs (.inr (eq_encode_of_decode hlookup))

theorem exec_clamp_eq (s : State) :
    exec .clamp s = .next { s with
      stage := 9#5
      work := { s.work with cl := pitchClamp s.work.sl, cf := pitchClamp s.work.ff } } :=
  execClamp_eq s

theorem toInt_pitchClamp (v : Fix) : (pitchClamp v).toInt = max 0 (min v.toInt 458752) := by
  rw [pitchClamp, toInt_fxClamp, toInt_fxZero, toInt_pitchHi]

/-- Settles O18: CLAMP is one update of the record, with `pitchClamp` of each voltage. -/
theorem clampLimitsBothPitches : Obligations.ClampLimitsBothPitches :=
  ⟨rfl, fun s => ⟨_, exec_clamp_eq s, toInt_pitchClamp _, toInt_pitchClamp _, rfl⟩⟩

/-! The duty codes (rules R201 and R202) -/

theorem exec_duty_eq (s : State) :
    exec .duty s = .next { s with
      stage := 10#5
      work := { s.work with
        dutyL := dutyCode s.work.samples.pwmKnobL s.work.samples.pwmCvL
        dutyF := dutyCode s.work.samples.pwmKnobF s.work.samples.pwmCvF } } :=
  execDuty_eq s

/-- Two codes add up to at most 8190, so 13 bits hold their sum. -/
theorem toNat_setWidth_add_setWidth (a b : Code) :
    (a.setWidth 13 + b.setWidth 13).toNat = a.toNat + b.toNat := by
  have ha := code_toNat_le a
  have hb := code_toNat_le b
  rw [BitVec.toNat_add, BitVec.toNat_setWidth, BitVec.toNat_setWidth]
  omega

theorem toNat_dutyCode (k v : Code) :
    (dutyCode k v).toNat = min ((4095 - k.toNat) + (4095 - v.toNat)) 4095 := by
  have hmax : adcMax.toNat = 4095 := rfl
  rw [← toNat_inv_nat, ← toNat_inv_nat, ← toNat_setWidth_add_setWidth]
  simp only [dutyCode]
  split
  case isTrue hover =>
    omega
  case isFalse hfits =>
    rw [BitVec.toNat_setWidth]
    omega

/-- Settles O19: DUTY is one update of the record, with `dutyCode` of each channel's samples. -/
theorem dutySaturatesWithoutWrap : Obligations.DutySaturatesWithoutWrap :=
  ⟨rfl, fun s => ⟨_, exec_duty_eq s, toNat_dutyCode _ _, toNat_dutyCode _ _, rfl⟩⟩

/-! The operations of the commit (rules R203 to R208) -/

theorem exec_lookup_eq (s : State) :
    exec .lookup s = .next { s with
      stage := 11#5
      oscL := storeVoice s.oscL (Config.lookup s.work.cl)
      oscF := storeVoice s.oscF (Config.lookup s.work.cf) } := rfl

/-- Settles O20: LOOKUP is one update of the record, with `storeVoice` for each oscillator. -/
theorem lookupStoresTheVoices : Obligations.LookupStoresTheVoices :=
  ⟨rfl, exec_lookup_eq⟩

theorem exec_irqoff_eq (s : State) :
    exec .irqoff s =
      .next { s with stage := 12#5, irqMask := true, trace := s.trace ++ [.irqMask true] } := rfl

theorem exec_irqon_eq (s : State) :
    exec .irqon s =
      .next { s with stage := 15#5, irqMask := false, trace := s.trace ++ [.irqMask false] } := rfl

/-- Settles O21: the two mask operations' equations. -/
theorem maskOperationsBracketTheCommit : Obligations.MaskOperationsBracketTheCommit :=
  ⟨rfl, rfl, fun s => ⟨exec_irqoff_eq s, exec_irqon_eq s⟩⟩

theorem exec_setper0_eq (s : State) :
    exec .setper0 s = .next { s with
      stage := 13#5
      output := { s.output with period0 := s.oscL.period }
      trace := s.trace ++ [.setPeriod .leader s.oscL.period] } := rfl

theorem exec_setper1_eq (s : State) :
    exec .setper1 s = .next { s with
      stage := 14#5
      output := { s.output with period1 := s.oscF.period }
      trace := s.trace ++ [.setPeriod .follower s.oscF.period] } := rfl

/-- Settles O22: the two period writes' equations. -/
theorem setPeriodsCommitTheirChannel : Obligations.SetPeriodsCommitTheirChannel :=
  ⟨rfl, rfl, fun s => ⟨exec_setper0_eq s, exec_setper1_eq s⟩⟩

theorem exec_dacwr_eq (s : State) :
    exec .dacwr s = .next { s with
      stage := 0#5
      output := { s.output with
        dac0 := dacWord true s.oscL.dacCode, dac1 := dacWord false s.work.dutyL
        dac2 := dacWord true s.oscF.dacCode, dac3 := dacWord false s.work.dutyF }
      trace := s.trace ++ [.dacWrite (dacWord true s.oscL.dacCode) (dacWord false s.work.dutyL)
        (dacWord true s.oscF.dacCode) (dacWord false s.work.dutyF)] } :=
  execDacwr_eq s

/-- A DAC word is its reference flag as bit 12 above its value (20_memory.md rule R55). -/
theorem toNat_dacWord (ref : Bool) (value : DacCode) :
    (dacWord ref value).toNat = 4096 * ref.toNat + value.toNat := by
  rw [dacWord, BitVec.toNat_append, ← Nat.shiftLeft_add_eq_or_of_lt value.isLt,
    BitVec.toNat_ofBool, Nat.shiftLeft_eq, mul_comm]

theorem toNat_dacWord_true (value : DacCode) :
    (dacWord true value).toNat = 4096 + value.toNat := toNat_dacWord true value

theorem toNat_dacWord_false (value : DacCode) :
    (dacWord false value).toNat = value.toNat := by
  rw [toNat_dacWord, Bool.toNat_false, mul_zero, zero_add]

/-- Settles O23: DACWR is one update of the record, with four `dacWord`s. -/
theorem dacwrWritesFourWords : Obligations.DacwrWritesFourWords :=
  ⟨rfl, fun s => ⟨_, _, _, _, toNat_dacWord_true _, toNat_dacWord_false _, toNat_dacWord_true _,
    toNat_dacWord_false _, exec_dacwr_eq s⟩⟩

/-! The critical section (rule R209) -/

/-- No reset is asserted in the first `k` of the coming gaps. -/
def NoResetWithin (k : Nat) (gaps : List (List AgentMove)) : Prop :=
  ∀ g ∈ gaps.take k, ∀ m ∈ g, m.isReset = false

theorem NoResetWithin.next {k : Nat} {s : State} (h : NoResetWithin (k + 1) s.gaps) :
    noResetNext s := by
  unfold noResetNext
  cases hgaps : s.gaps with
  | nil => exact List.forall_mem_nil _
  | cons g gs => exact h g (by simp [hgaps])

theorem NoResetWithin.tail {k : Nat} {gaps : List (List AgentMove)}
    (h : NoResetWithin (k + 1) gaps) : NoResetWithin k gaps.tail := by
  cases gaps with
  | nil => simp [NoResetWithin]
  | cons g gs => exact fun g' hg' => h g' (List.mem_cons_of_mem g hg')

/-- A step without a reset runs the operation of the stage it starts at, after the agents' own
writes and, if the mask is clear, some reads of the committed periods. -/
theorem exists_step_eq_exec_agentUpdate {s : State} {i : Instr} (hstage : s.stage = encode i)
    (hquiet : noResetNext s) :
    ∃ (x : Inputs) (p : Bool) (n : Nat), (n ≠ 0 → s.irqMask = false) ∧
      step s = exec i ({ s with gaps := s.gaps.tail }.agentUpdate x p n) := by
  obtain ⟨x, p, n, hn, hgap⟩ := AgentsReach.runGap hquiet
  have hdecode : decode (runGap s).stage = .ok i := by
    rw [runGap_stage hquiet, hstage, decode_encode]
  exact ⟨x, p, n, hn, hgap ▸ runStage_of_ok hdecode⟩

/-- A run that has come to a masked state goes on with the operation of its stage, and no timer read
comes before it. -/
theorem exists_run_eq_of_masked {r s : State} {j k : Nat} {i : Instr} {next : State → State}
    (hrun : Host.Core.run core j r = Host.Core.run core (k + 1) s)
    (hexec : ∀ u, exec i u = .next (next u)) (hstage : s.stage = encode i)
    (hmask : s.irqMask = true) (hquiet : noResetNext s) :
    ∃ (x : Inputs) (p : Bool), Host.Core.run core j r =
      Host.Core.run core k
        (next { s with input := x, timerPending := p, gaps := s.gaps.tail }) := by
  obtain ⟨x, p, n, hn, hstep⟩ := exists_step_eq_exec_agentUpdate hstage hquiet
  obtain rfl : n = 0 := by
    by_contra h0
    exact absurd (hn h0) (by simp [hmask])
  simp only [State.agentUpdate, List.replicate_zero, List.append_nil] at hstep
  exact ⟨x, p, hrun.trans (core_run_succ (hstep.trans (hexec _)) k)⟩

/-- Settles O55: the gap before IRQOFF is the last that may read the old pair; the three that follow
it are masked. -/
theorem criticalSectionAdmitsNoTimerRead : Obligations.CriticalSectionAdmitsNoTimerRead := by
  intro s hstage hgaps
  have hquiet : NoResetWithin 4 s.gaps := hgaps
  obtain ⟨x, p, n, -, hoff⟩ :=
    exists_step_eq_exec_agentUpdate (i := .irqoff) hstage hquiet.next
  have masked := core_run_succ (hoff.trans (exec_irqoff_eq _)) 3
  obtain ⟨_, _, set0⟩ :=
    exists_run_eq_of_masked masked exec_setper0_eq rfl rfl hquiet.tail.next
  obtain ⟨_, _, set1⟩ :=
    exists_run_eq_of_masked set0 exec_setper1_eq rfl rfl hquiet.tail.tail.next
  obtain ⟨_, _, unmasked⟩ :=
    exists_run_eq_of_masked set1 exec_irqon_eq rfl rfl hquiet.tail.tail.tail.next
  exact ⟨_, n, unmasked, rfl, rfl, rfl, by simp [State.agentUpdate]⟩

end Sys2Proof.Machine
end

section
/-! PROOFS. The family of spec/46_scheduler.md. First each operation's own statement; then that no run
stops; then the idle passes. -/

namespace Sys2Proof.Machine

/-! The stages (rule R232) -/

/-- Settles O6: every operation goes on to `nextStage`, and the table's rows are that function's
equations. -/
theorem stageSuccession : Obligations.StageSuccession := by
  have hgoes (i : Instr) (s : State) : ∃ t, exec i s = .next t ∧ t.stage = nextStage i s := by
    obtain ⟨t, ht, own⟩ := exec_goes_on i s
    exact ⟨t, ht, own.stage⟩
  refine ⟨fun p hp s => ?row, hgoes .poll, hgoes .hsync⟩
  case row =>
    obtain ⟨t, ht, hstage⟩ := hgoes p.1 s
    have hnext : nextStage p.1 s = p.2 := by fin_cases hp <;> rfl
    exact ⟨t, ht, hstage.trans hnext⟩

/-! INIT and POLL (rules R231 and R233) -/

theorem exec_init_eq (s : State) :
    exec .init s = .next { s with
      stage := 0#5
      oscL := initOsc s.settings .leader s.oscL
      oscF := initOsc s.settings .follower s.oscF } :=
  execInit_eq s

theorem toInt_initOsc_knobRange (t : Settings) (c : Chan) (o : Osc) :
    (initOsc t c o).knobRange.toInt = refSub (t.knobMax c).toInt (t.knobMin c).toInt :=
  toInt_fxSub _ _

/-- Settles O10: INIT is one update of the record, with `initOsc` of each oscillator. -/
theorem initDerivesTheParameters : Obligations.InitDerivesTheParameters := by
  refine ⟨rfl, fun s => ⟨_, exec_init_eq s, fun c => ?_, rfl⟩⟩
  cases c with
  | leader => exact ⟨toInt_initOsc_knobRange _ _ _, rfl, rfl, rfl, rfl, rfl, rfl⟩
  | follower => exact ⟨toInt_initOsc_knobRange _ _ _, rfl, rfl, rfl, rfl, rfl, rfl⟩

theorem exec_poll_of_fresh {s : State} (hready : s.input.adcReady = true) :
    exec .poll s = .next { s with
      stage := 1#5
      work := { s.work with samples := s.input.adcCode, dv := true }
      input := { s.input with adcReady := false } } :=
  if_pos hready

theorem exec_poll_of_no_data {s : State} (hready : s.input.adcReady = false) :
    exec .poll s = .next { s with stage := 7#5, work := { s.work with dv := false } } :=
  if_neg (by simp [hready])

/-- Settles O11: the equation of POLL in each of its two cases. -/
theorem pollSnapshotsFreshData : Obligations.PollSnapshotsFreshData :=
  ⟨rfl, fun _ => ⟨exec_poll_of_fresh, exec_poll_of_no_data⟩⟩

/-! No run stops (rules R235 and R238) -/

theorem exists_decode_of_legal {c : StageCode} (h : legalStage c = true) :
    ∃ i, decode c = .ok i := by
  have hle : c.toNat ≤ 16 := of_decide_eq_true h
  unfold decode
  interval_cases c.toNat <;> exact ⟨_, rfl⟩

/-- From a legal stage a step goes on: the gap leaves a legal stage, which selects an operation. -/
theorem exists_step_of_legal {s : State} (h : StageLegal s) : ∃ t, step s = .next t := by
  obtain ⟨i, hi⟩ := exists_decode_of_legal (runGap_stageLegal h)
  obtain ⟨t, ht, -⟩ := exec_goes_on i (runGap s)
  exact ⟨t, (runStage_of_ok hi).trans ht⟩

theorem step_stageLegal {s t : State} (h : step s = .next t) : StageLegal t := by
  obtain ⟨i, -, he⟩ := step_next h
  exact exec_stageLegal he

/-- If every step from a state with `P` goes on and keeps `P`, so does every run. -/
theorem exists_run_of_step {P : State → Prop} (hstep : ∀ s, P s → ∃ t, step s = .next t ∧ P t)
    (k : Nat) (s : State) (h : P s) : ∃ t, Host.Core.run core k s = .next t ∧ P t := by
  induction k generalizing s with
  | zero => exact ⟨s, core_run_zero s, h⟩
  | succ k ih =>
    obtain ⟨u, hsu, hu⟩ := hstep s h
    rw [core_run_succ hsu]
    exact ih u hu

/-- Settles O54. -/
theorem noRunEverStops : Obligations.NoRunEverStops := by
  intro s k hs
  refine exists_run_of_step (fun u hu => ?_) k s hs
  obtain ⟨t, ht⟩ := exists_step_of_legal hu
  exact ⟨t, ht, step_stageLegal ht⟩

/-! Idle passes (rule R234) -/

theorem OnlyTapChanged.of_stage_dv (s : State) (c : StageCode) (b : Bool) :
    OnlyTapChanged s { s with stage := c, work := { s.work with dv := b } } :=
  ⟨rfl, rfl, rfl, rfl, rfl, rfl, rfl, [], (List.append_nil _).symm, List.forall_mem_nil _⟩

theorem OnlyTapChanged.refl (s : State) : OnlyTapChanged s s :=
  .of_stage_dv s s.stage s.work.dv

theorem OnlyTapChanged.trans {s t u : State} (hst : OnlyTapChanged s t)
    (htu : OnlyTapChanged t u) : OnlyTapChanged s u := by
  obtain ⟨hL, hF, hlfo, hmask, hset, hwork, hout, es, htrace, hes⟩ := hst
  obtain ⟨hL', hF', hlfo', hmask', hset', hwork', hout', es', htrace', hes'⟩ := htu
  have hperiod0 : t.output.period0 = s.output.period0 := by rw [hout]
  have hperiod1 : t.output.period1 = s.output.period1 := by rw [hout]
  rw [hperiod0, hperiod1] at hes'
  refine ⟨hL'.trans hL, hF'.trans hF, hlfo'.trans hlfo, hmask'.trans hmask, hset'.trans hset,
    ?work, ?output, es ++ es', ?trace, ?events⟩
  case work => rw [hwork', hwork]
  case output => rw [hout', hout]
  case trace => rw [htrace', htrace, List.append_assoc]
  case events => exact List.forall_mem_append.2 ⟨hes, hes'⟩

/-- The agents' moves in a gap, their timer reads among them, are within what may change. -/
theorem runGap_onlyTapChanged {s : State} (h : noResetNext s) : OnlyTapChanged s (runGap s) := by
  obtain ⟨x, p, n, -, hgap⟩ := AgentsReach.runGap h
  rw [hgap]
  refine ⟨rfl, rfl, rfl, rfl, rfl, rfl, rfl, _, rfl, fun e he => ?_⟩
  exact .inr (.inr (List.eq_of_mem_replicate he))

theorem AwaitsData.next_moves {s : State} (h : AwaitsData s) :
    ∀ m ∈ s.gaps.headD [], m ≠ .adcReady ∧ m.isReset = false := by
  obtain ⟨-, -, hgaps⟩ := h
  cases hs : s.gaps with
  | nil => exact List.forall_mem_nil _
  | cons g gs => exact hgaps g (by simp [hs])

theorem AwaitsData.noResetNext {s : State} (h : AwaitsData s) : noResetNext s := by
  intro m hm
  obtain ⟨-, hreset⟩ := h.next_moves m hm
  exact hreset

theorem AwaitsData.runGap_adcReady {s : State} (h : AwaitsData s) :
    (runGap s).input.adcReady = false := by
  have hmoves := h.next_moves
  rw [← Bool.not_eq_true, runGap_flag moveEffect_adcReady h.noResetNext]
  obtain ⟨-, hready, -⟩ := h
  rintro (hset | hmem)
  · exact absurd hset (by simp [hready])
  · obtain ⟨hne, -⟩ := hmoves _ hmem
    exact hne rfl

/-- A gap in which no fresh data comes leaves the block waiting. -/
theorem runGap_awaitsData {s : State} (h : AwaitsData s) : AwaitsData (runGap s) := by
  have hquiet := h.noResetNext
  have hready := h.runGap_adcReady
  obtain ⟨hstage, -, hgaps⟩ := h
  obtain ⟨x, p, n, -, hgap⟩ := AgentsReach.runGap hquiet
  have hwork : (runGap s).work = s.work := by rw [hgap]; rfl
  refine ⟨?stage, hready, ?gaps⟩
  case stage => rwa [runGap_stage hquiet, hwork]
  case gaps =>
    rw [runGap_gaps]
    exact fun g hg => hgaps g (List.mem_of_mem_tail hg)

theorem exec_poll_awaitsData {s t : State} (h : AwaitsData s) (he : exec .poll s = .next t) :
    AwaitsData t ∧ OnlyTapChanged s t := by
  obtain ⟨-, hready, hgaps⟩ := h
  rw [exec_poll_of_no_data hready] at he
  cases he
  exact ⟨⟨.inr ⟨rfl, rfl⟩, hready, hgaps⟩, .of_stage_dv s 7#5 false⟩

/-- HSYNC ends the idle pass, with the two notifications if a tap was pending. -/
theorem exec_hsync_awaitsData {s t : State} (h : AwaitsData s) (hdv : s.work.dv = false)
    (he : exec .hsync s = .next t) : AwaitsData t ∧ OnlyTapChanged s t := by
  obtain ⟨-, hready, hgaps⟩ := h
  have hstage : nextStage .hsync s = 0#5 := by simp [nextStage, hdv]
  cases htap : s.input.tapPending with
  | true =>
    rw [exec_hsync_of_tap htap, hstage] at he
    cases he
    refine ⟨⟨.inl rfl, hready, hgaps⟩, rfl, rfl, rfl, rfl, rfl, rfl, rfl, _, rfl, ?_⟩
    simp [Event.isHardSync, Event.isLedMode]
  | false =>
    rw [exec_hsync_of_no_tap htap, hstage] at he
    cases he
    exact ⟨⟨.inl rfl, hready, hgaps⟩, .of_stage_dv s 0#5 s.work.dv⟩

/-- While the block waits, the stage selects POLL or, with `W.DV` = 0, HSYNC. -/
theorem AwaitsData.decoded {s : State} (h : AwaitsData s) {i : Instr}
    (hi : decode s.stage = .ok i) : i = .poll ∨ i = .hsync ∧ s.work.dv = false := by
  obtain ⟨hstage | ⟨hstage, hdv⟩, -⟩ := h <;> rw [hstage] at hi <;> cases hi
  · exact .inl rfl
  · exact .inr ⟨rfl, hdv⟩

/-- Settles O58: the gap changes what the agents own, and the operation after it is an idle POLL or
an idle HSYNC. -/
theorem everyStepKeepsAwaitingData : Obligations.EveryStepKeepsAwaitingData := by
  intro s t hs hstep
  obtain ⟨i, hi, he⟩ := step_next hstep
  have hgap := runGap_awaitsData hs
  have hop : AwaitsData t ∧ OnlyTapChanged (runGap s) t := by
    obtain rfl | ⟨rfl, hdv⟩ := hgap.decoded hi
    · exact exec_poll_awaitsData hgap he
    · exact exec_hsync_awaitsData hgap hdv he
  obtain ⟨hawaits, hchanged⟩ := hop
  exact ⟨hawaits, (runGap_onlyTapChanged hs.noResetNext).trans hchanged⟩

theorem AwaitsData.stageLegal {s : State} (h : AwaitsData s) : StageLegal s := by
  obtain ⟨hstage | ⟨hstage, -⟩, -⟩ := h <;> rw [StageLegal, hstage] <;> rfl

/-- Settles O56: the block awaits data at the start, and every step keeps that and changes no more than
the steps before it. -/
theorem idlePassesTouchOnlyTheTap : Obligations.IdlePassesTouchOnlyTheTap := by
  intro s k hstage hready hgaps
  have hstep : ∀ u, AwaitsData u ∧ OnlyTapChanged s u →
      ∃ v, step u = .next v ∧ AwaitsData v ∧ OnlyTapChanged s v := by
    rintro u ⟨hawaits, hchanged⟩
    obtain ⟨v, hv⟩ := exists_step_of_legal hawaits.stageLegal
    obtain ⟨hawaits', hchanged'⟩ := everyStepKeepsAwaitingData u v hawaits hv
    exact ⟨v, hv, hawaits', hchanged.trans hchanged'⟩
  obtain ⟨t, hrun, ⟨hstage', -⟩, hchanged⟩ := exists_run_of_step hstep k s
    ⟨⟨.inl hstage, hready, hgaps⟩, OnlyTapChanged.refl s⟩
  exact ⟨t, hrun, hchanged, hstage'.imp_right And.left⟩

end Sys2Proof.Machine
end

section
/-! PROOFS. The big-step pass of 46_scheduler.md rule R236: the data path, the toggle and the commit,
each as a run of a quiet machine and as its part of the reference pass; then the two passes, put together
from them. -/

namespace Sys2Proof.Machine

/-! Runs of a quiet machine -/

/-- No external agent moves from here on: no coming move and no pending timer read. -/
def Quiet (s : State) : Prop := s.gaps = [] ∧ s.timerPending = false

theorem step_of_quiet {s : State} {i : Instr} (hstage : s.stage = encode i) (hq : Quiet s) :
    step s = exec i s := by
  obtain ⟨hgaps, hpending⟩ := hq
  rw [step, runGap_of_still hpending hgaps, runStage_of_ok (by rw [hstage, decode_encode])]

theorem core_run_add {s t : State} {n : Nat} (h : Host.Core.run core n s = .next t) (k : Nat) :
    Host.Core.run core (n + k) s = Host.Core.run core k t := by
  induction n generalizing s with
  | zero =>
    rw [core_run_zero] at h
    cases h
    rw [Nat.zero_add]
  | succ n ih =>
    obtain ⟨u, hstep, hrest⟩ := core_run_succ_next h
    rw [Nat.add_right_comm, core_run_succ hstep, ih hrest]

theorem exec_quiet {i : Instr} {s t : State} (hexec : exec i s = .next t) (h : Quiet s) :
    Quiet t := by
  obtain ⟨hgaps, hpending⟩ := h
  obtain ⟨u, hu, own⟩ := exec_leavesAgentState i s
  obtain rfl : u = t := by simpa [hu] using hexec
  exact ⟨own.gaps.trans hgaps, own.timerPending.trans hpending⟩

/-- `n` steps lead from `r` to `s`, where the machine is quiet. -/
structure QuietRun (n : Nat) (r s : State) : Prop where
  run : Host.Core.run core n r = .next s
  quiet : Quiet s

theorem QuietRun.zero {s : State} (h : Quiet s) : QuietRun 0 s s := ⟨core_run_zero s, h⟩

/-- A quiet run goes on with the operation of the stage it has come to. -/
theorem QuietRun.exec {r s t : State} {n : Nat} {i : Instr} (h : QuietRun n r s)
    (hexec : exec i s = .next t) (hstage : s.stage = encode i) : QuietRun (n + 1) r t where
  run := by
    rw [core_run_add h.run, core_run_succ ((step_of_quiet hstage h.quiet).trans hexec),
      core_run_zero]
  quiet := exec_quiet hexec h.quiet

theorem QuietRun.trans {r s t : State} {n k : Nat} (h : QuietRun n r s) (h' : QuietRun k s t) :
    QuietRun (n + k) r t :=
  ⟨(core_run_add h.run k).trans h'.run, h'.quiet⟩

/-! The data path (stages 0 to 6) -/

/-- POLL, RESL and RESF with fresh data: the snapshot and the reference pitches of its codes. -/
theorem exists_run_resolve {s : State} (hstage : s.stage = 0#5) (hq : Quiet s)
    (hready : s.input.adcReady = true) :
    ∃ (pl pf : Fix) (follow : Bool),
      QuietRun 3 s { s with
        stage := 3#5
        work := { s.work with
          samples := s.input.adcCode, dv := true, pl := pl, pf := pf, follow := follow }
        input := { s.input with adcReady := false } } ∧
      pl.toInt = refLeaderPitch s.settings s.oscL.knobRange.toInt s.input.adcCode ∧
      pf.toInt = refFollowerPitch s.settings s.oscF.knobRange.toInt pl.toInt s.input.adcCode := by
  have polled := (QuietRun.zero hq).exec (exec_poll_of_fresh hready) hstage
  have leader := polled.exec (exec_resl_eq _) rfl
  have follower := leader.exec (exec_resf_eq _) rfl
  exact ⟨_, _, _, follower, toInt_leaderPitch _, toInt_followerPitch _⟩

/-- SMTHL and SMTHF: each filter steps toward its pitch. -/
theorem run_smooth {s : State} (hstage : s.stage = 3#5) (hq : Quiet s) :
    QuietRun 2 s { s with
      stage := 5#5
      work := { s.work with
        sl := (smoothStep s.oscL s.work.pl).lp2, sf := (smoothStep s.oscF s.work.pf).lp2 }
      oscL := smoothStep s.oscL s.work.pl
      oscF := smoothStep s.oscF s.work.pf } :=
  ((QuietRun.zero hq).exec (exec_smthl_eq s) hstage).exec (exec_smthf_eq _) rfl

/-- LFOADV and LFOMOD: the LFO advances to the tick count, and its new phase modulates the
follower. -/
theorem exists_run_modulate {s : State} (hstage : s.stage = 5#5) (hq : Quiet s) :
    ∃ mod ff : Fix,
      QuietRun 2 s { s with
        stage := 7#5
        work := { s.work with mod := mod, ff := ff }
        lfo := lfoAdvance (lfoK s.settings.chorusFrequency) s.lfo s.input.tickNow } ∧
      ff.toInt = refAdd s.work.sf.toInt (refModulation s.settings.chorusMaxIntensity.toInt
        s.work.samples.lfoKnob.toNat
        (lfoAdvance (lfoK s.settings.chorusFrequency) s.lfo s.input.tickNow).phase.toNat) := by
  have advanced := (QuietRun.zero hq).exec (exec_lfoadv_eq s) hstage
  have modulated := advanced.exec (exec_lfomod_eq _) rfl
  refine ⟨_, _, modulated, ?_⟩
  rw [toInt_fxAdd, toInt_modulation]

/-- What the operations POLL to LFOMOD of a data pass leave, started from `s`: the reference data path
in the oscillators and the LFO; the snapshot, the smoothed leader pitch and the modulated follower
pitch in the working registers; and the Settings and the latches but for the consumed flag. -/
structure DataPathDone (s u : State) : Prop where
  block : u.refBlock = refDataPath s.settings s.refBlock s.passHeader
  samples : u.work.samples = s.input.adcCode
  dv : u.work.dv = true
  sl : u.work.sl.toInt = u.refBlock.oscL.lp2
  ff : u.work.ff.toInt = refAdd u.refBlock.oscF.lp2
    (refModulation s.settings.chorusMaxIntensity.toInt s.input.adcCode.lfoKnob.toNat
      u.refBlock.phase)
  stage : u.stage = 7#5
  settings : u.settings = s.settings
  input : u.input = { s.input with adcReady := false }

theorem raw_smoothStep (o : Osc) (x : Fix) :
    (smoothStep o x).raw = { o.raw with
      lp1 := (refSmooth o.raw.g0 o.raw.sens o.raw.lp1 o.raw.lp2 x.toInt).1
      lp2 := (refSmooth o.raw.g0 o.raw.sens o.raw.lp1 o.raw.lp2 x.toInt).2 } := by
  have h := toInt_smoothStep o x
  simp only [Osc.raw, ← h]
  rfl

theorem exists_run_dataPath {s : State} (hstage : s.stage = 0#5) (hq : Quiet s)
    (hready : s.input.adcReady = true) : ∃ u, QuietRun 7 s u ∧ DataPathDone s u := by
  obtain ⟨pl, pf, follow, resolved, hpl, hpf⟩ := exists_run_resolve hstage hq hready
  have smoothed := run_smooth rfl resolved.quiet
  obtain ⟨mod, ff, modulated, hff⟩ := exists_run_modulate rfl smoothed.quiet
  refine ⟨_, (resolved.trans smoothed).trans modulated, ?block, rfl, rfl, rfl, hff, rfl, rfl, rfl⟩
  case block =>
    have hlfo := lfoAdvance_eq_refAdvance s.settings.chorusFrequency s.lfo s.input.tickNow
    simp only [State.refBlock, refDataPath, State.passHeader, raw_smoothStep, hpl, hpf, ← hlfo]
    rfl

/-! The toggle (stage 7) -/

/-- HSYNC is the reference toggle on what the latch holds. -/
theorem exists_exec_hsync (u : State) :
    ∃ v, exec .hsync u = .next v ∧ v.refBlock = refTap u.refBlock u.input.tapPending ∧
      v = { u with
        stage := nextStage .hsync u
        hs := v.hs
        input := { u.input with tapPending := false }
        output := v.output
        trace := v.trace } := by
  cases htap : u.input.tapPending with
  | true => exact ⟨_, exec_hsync_of_tap htap, rfl, rfl⟩
  | false =>
    refine ⟨_, exec_hsync_of_no_tap htap, rfl, ?_⟩
    rw [← htap]

/-! The commit (stages 8 to 15) -/

theorem pitchClamp_eq_ofInt (v : Fix) : pitchClamp v = BitVec.ofInt 32 (refClamp v.toInt) := by
  rw [refClamp, ← toInt_pitchClamp, BitVec.ofInt_toInt]

theorem dacWord_true_eq (d : DacCode) : dacWord true d = refPitchWord d := by
  apply BitVec.eq_of_toNat_eq
  have hd := code_toNat_le d
  rw [toNat_dacWord_true, refPitchWord, BitVec.toNat_ofNat]
  omega

theorem toNat_dutyCode_eq_refDuty (k v : Code) :
    ((dutyCode k v).toNat : Int) = refDuty k.toNat v.toNat := by
  have hk := code_toNat_le k
  have hv := code_toNat_le v
  rw [toNat_dutyCode, refDuty, refInv, refInv]
  omega

theorem dacWord_false_dutyCode (k v : Code) :
    dacWord false (dutyCode k v) = BitVec.ofInt 13 (refDuty k.toNat v.toNat) := by
  rw [← toNat_dutyCode_eq_refDuty, BitVec.ofInt_natCast]
  apply BitVec.eq_of_toNat_eq
  have hduty := code_toNat_le (dutyCode k v)
  rw [toNat_dacWord_false, BitVec.toNat_ofNat]
  omega

/-- CLAMP, DUTY and LOOKUP: the voices of the clamped voltages, and the duty codes. -/
theorem run_voices {v : State} (hstage : v.stage = 8#5) (hq : Quiet v) :
    QuietRun 3 v { v with
      stage := 11#5
      work := { v.work with
        cl := pitchClamp v.work.sl
        cf := pitchClamp v.work.ff
        dutyL := dutyCode v.work.samples.pwmKnobL v.work.samples.pwmCvL
        dutyF := dutyCode v.work.samples.pwmKnobF v.work.samples.pwmCvF }
      oscL := storeVoice v.oscL (Config.lookup (pitchClamp v.work.sl))
      oscF := storeVoice v.oscF (Config.lookup (pitchClamp v.work.ff)) } := by
  have clamped := (QuietRun.zero hq).exec (exec_clamp_eq v) hstage
  have duty := clamped.exec (exec_duty_eq _) rfl
  exact duty.exec (exec_lookup_eq _) rfl

/-- IRQOFF to DACWR: both periods under the mask, then the DAC words. -/
theorem run_outputs {v : State} (hstage : v.stage = 11#5) (hq : Quiet v) :
    QuietRun 5 v { v with
      stage := 0#5
      irqMask := false
      output := { v.output with
        period0 := v.oscL.period
        period1 := v.oscF.period
        dac0 := dacWord true v.oscL.dacCode
        dac1 := dacWord false v.work.dutyL
        dac2 := dacWord true v.oscF.dacCode
        dac3 := dacWord false v.work.dutyF }
      trace := v.trace ++ [.irqMask true, .setPeriod .leader v.oscL.period,
        .setPeriod .follower v.oscF.period, .irqMask false,
        .dacWrite (dacWord true v.oscL.dacCode) (dacWord false v.work.dutyL)
          (dacWord true v.oscF.dacCode) (dacWord false v.work.dutyF)] } := by
  have masked := (QuietRun.zero hq).exec (exec_irqoff_eq v) hstage
  have set0 := masked.exec (exec_setper0_eq _) rfl
  have set1 := set0.exec (exec_setper1_eq _) rfl
  have unmasked := set1.exec (exec_irqon_eq _) rfl
  have written := unmasked.exec (exec_dacwr_eq _) rfl
  simpa only [List.append_assoc, List.cons_append, List.nil_append] using written

/-- The commit is the reference's for the voltages and the samples it finds. -/
theorem exists_run_commit {v : State} (hstage : v.stage = 8#5) (hq : Quiet v) :
    ∃ t, QuietRun 8 v t ∧
      t.refBlock = refCommit v.refBlock (refClamp v.work.sl.toInt) (refClamp v.work.ff.toInt)
        (refDuty v.work.samples.pwmKnobL.toNat v.work.samples.pwmCvL.toNat)
        (refDuty v.work.samples.pwmKnobF.toNat v.work.samples.pwmCvF.toNat) ∧
      t.stage = 0#5 ∧ t.irqMask = false ∧ t.settings = v.settings ∧ t.input = v.input := by
  have voices := run_voices hstage hq
  have outputs := run_outputs rfl voices.quiet
  refine ⟨_, voices.trans outputs, ?block, rfl, rfl, rfl, rfl⟩
  case block =>
    simp only [State.refBlock, refCommit, ← pitchClamp_eq_ofInt, ← dacWord_true_eq,
      ← dacWord_false_dutyCode]
    rfl

/-! The two passes (rule R236) -/

@[simp] theorem refTap_oscL (b : RefBlock) (tap : Bool) : (refTap b tap).oscL = b.oscL := by
  cases tap <;> rfl

@[simp] theorem refTap_oscF (b : RefBlock) (tap : Bool) : (refTap b tap).oscF = b.oscF := by
  cases tap <;> rfl

@[simp] theorem refTap_phase (b : RefBlock) (tap : Bool) : (refTap b tap).phase = b.phase := by
  cases tap <;> rfl

theorem refPass_of_no_data {t : Settings} {b : RefBlock} {h : PassHeader}
    (hready : h.ready = false) :
    refPass t b h = refTap b h.tap := by
  simp [refPass, hready]

/-- The toggle leaves what the commit reads of the data path, so its arguments are the data path's. -/
theorem refPass_of_ready {t : Settings} {b : RefBlock} {h : PassHeader}
    (hready : h.ready = true) :
    refPass t b h = refCommit (refTap (refDataPath t b h) h.tap)
      (refClamp (refDataPath t b h).oscL.lp2)
      (refClamp (refAdd (refDataPath t b h).oscF.lp2
        (refModulation t.chorusMaxIntensity.toInt h.codes.lfoKnob.toNat (refDataPath t b h).phase)))
      (refDuty h.codes.pwmKnobL.toNat h.codes.pwmCvL.toNat)
      (refDuty h.codes.pwmKnobF.toNat h.codes.pwmCvF.toNat) := by
  simp [refPass, hready]

/-- `n` steps from `s` lead to a state between passes with both input flags consumed, where the
reference computation stands as after the reference pass. -/
def PassTakes (n : Nat) (s : State) : Prop :=
  ∃ t, Host.Core.run core n s = .next t ∧ t.refBlock = refPass s.settings s.refBlock s.passHeader ∧
    t.stage = 0#5 ∧ t.irqMask = false ∧ t.settings = s.settings ∧
    t.input = { s.input with adcReady := false, tapPending := false }

/-- An idle pass is POLL and HSYNC. -/
theorem passTakes_of_no_data {s : State} (hstage : s.stage = 0#5) (hmask : s.irqMask = false)
    (hq : Quiet s) (hready : s.input.adcReady = false) : PassTakes 2 s := by
  have polled := (QuietRun.zero hq).exec (exec_poll_of_no_data hready) hstage
  obtain ⟨t, hexec, hblock, hframe⟩ := exists_exec_hsync
    { s with stage := 7#5, work := { s.work with dv := false } }
  have toggled := polled.exec hexec rfl
  refine ⟨t, toggled.run, ?block, ?frame⟩
  case block =>
    rw [refPass_of_no_data (h := s.passHeader) hready]
    exact hblock
  case frame =>
    rw [hframe]
    exact ⟨rfl, hmask, rfl, by rw [← hready]⟩

/-- A data pass is the data path, the toggle and the commit. -/
theorem passTakes_of_fresh {s : State} (hstage : s.stage = 0#5) (hq : Quiet s)
    (hready : s.input.adcReady = true) : PassTakes 16 s := by
  obtain ⟨u, hdata, hdone⟩ := exists_run_dataPath hstage hq hready
  obtain ⟨v, hexec, htap, hframe⟩ := exists_exec_hsync u
  have toggled := hdata.exec hexec hdone.stage
  have hstage8 : v.stage = 8#5 := by
    rw [hframe]
    simp [nextStage, hdone.dv]
  have hwork : v.work = u.work := by rw [hframe]
  have hset : v.settings = u.settings := by rw [hframe]
  have hinput : v.input = { u.input with tapPending := false } := by rw [hframe]
  obtain ⟨t, hcommit, hblock, hstage0, hmask, hset', hinput'⟩ :=
    exists_run_commit hstage8 toggled.quiet
  refine ⟨t, (toggled.trans hcommit).run, ?block, hstage0, hmask,
    hset'.trans (hset.trans hdone.settings), ?input⟩
  case input => rw [hinput', hinput, hdone.input]
  case block =>
    have hpending : u.input.tapPending = s.input.tapPending := by rw [hdone.input]
    rw [hblock, htap, hwork, hdone.sl, hdone.ff, hdone.samples, hpending, hdone.block]
    exact (refPass_of_ready hready).symm

/-- Settles O57, by the two kinds of pass. -/
theorem passIsTheReferencePass : Obligations.PassIsTheReferencePass := by
  intro s hstage hmask hgaps hpending
  have hq : Quiet s := ⟨hgaps, hpending⟩
  change PassTakes _ s
  cases hready : s.input.adcReady with
  | true => exact passTakes_of_fresh hstage hq hready
  | false => exact passTakes_of_no_data hstage hmask hq hready

end Sys2Proof.Machine
end

section
/-! PROOFS. The timer agent through one gap (60_exceptions.md rule R254): masked, its occurrences
collapse into the pending bit; unmasked, a gap serves the pending one and then each one that falls
due. -/

namespace Sys2Proof.Machine

theorem applyMove_of_masked {s : State} (hmask : s.irqMask = true) {m : AgentMove}
    (hm : m.isReset = false) :
    applyMove s m =
      s.agentUpdate (moveEffect s m).input (s.timerPending || [m].contains .timerDue) 0 := by
  simp [applyMove_eq s hm, hmask, State.agentUpdate, Bool.beq_eq_decide_eq, @eq_comm _ m]

theorem applyMove_of_unmasked_idle {s : State} (hmask : s.irqMask = false)
    (hidle : s.timerPending = false) {m : AgentMove} (hm : m.isReset = false) :
    applyMove s m = s.agentUpdate (moveEffect s m).input false ([m].count .timerDue) := by
  simp [applyMove_eq s hm, hmask, hidle, State.agentUpdate, List.count_singleton]

theorem serveTimer_of_masked {s : State} (hmask : s.irqMask = true) : serveTimer s = s := by
  simp [serveTimer, hmask]

theorem serveTimer_of_unmasked {s : State} (hmask : s.irqMask = false) :
    serveTimer s = s.agentUpdate s.input false (if s.timerPending then 1 else 0) := by
  cases hp : s.timerPending with
  | false => rw [serveTimer_of_idle hp, if_neg Bool.false_ne_true, ← hp, s.agentUpdate_self]
  | true =>
    simp [serveTimer, hp, hmask, State.agentUpdate, State.emit, State.setTimerPending]

/-- Masked moves read nothing and leave one pending bit for any number of occurrences. -/
theorem exists_foldl_applyMove_of_masked {ms : List AgentMove}
    (hms : ∀ m ∈ ms, m.isReset = false) {s : State} (hmask : s.irqMask = true) :
    ∃ x, ms.foldl applyMove s = s.agentUpdate x (s.timerPending || ms.contains .timerDue) 0 := by
  induction ms generalizing s with
  | nil => exact ⟨s.input, by simp [s.agentUpdate_self]⟩
  | cons m ms ih =>
    obtain ⟨hm, hms⟩ := List.forall_mem_cons.mp hms
    obtain ⟨x, hx⟩ := ih hms (s := applyMove s m) (by rw [applyMove_of_masked hmask hm]; exact hmask)
    refine ⟨x, ?_⟩
    rw [List.foldl_cons, hx, applyMove_of_masked hmask hm, State.agentUpdate_agentUpdate]
    simp [State.agentUpdate, Bool.or_assoc]

/-- Unmasked moves from where nothing is pending read once for each occurrence. -/
theorem exists_foldl_applyMove_of_unmasked_idle {ms : List AgentMove}
    (hms : ∀ m ∈ ms, m.isReset = false) {s : State} (hmask : s.irqMask = false)
    (hidle : s.timerPending = false) :
    ∃ x, ms.foldl applyMove s = s.agentUpdate x false (ms.count .timerDue) := by
  induction ms generalizing s with
  | nil => exact ⟨s.input, by simp [← hidle, s.agentUpdate_self]⟩
  | cons m ms ih =>
    obtain ⟨hm, hms⟩ := List.forall_mem_cons.mp hms
    have hhead := applyMove_of_unmasked_idle hmask hidle hm
    obtain ⟨x, hx⟩ := ih hms (s := applyMove s m) (by rw [hhead]; exact hmask) (by rw [hhead]; rfl)
    refine ⟨x, ?_⟩
    rw [List.foldl_cons, hx, hhead, State.agentUpdate_agentUpdate, ← List.count_append,
      List.singleton_append]

/-- A masked gap without a reset: no read, and the occurrences in the pending bit. -/
theorem exists_runGap_of_masked {s : State} (hs : noResetNext s) (hmask : s.irqMask = true) :
    ∃ x, runGap s = { s with gaps := s.gaps.tail }.agentUpdate x
      (s.timerPending || (s.gaps.headD []).contains .timerDue) 0 := by
  rw [runGap, applyMoves, serveTimer_of_masked (by exact hmask)]
  exact exists_foldl_applyMove_of_masked hs hmask

/-- An unmasked gap without a reset: nothing pending after it, the pending occurrence read first and
then each one that falls due. -/
theorem exists_runGap_of_unmasked {s : State} (hs : noResetNext s) (hmask : s.irqMask = false) :
    ∃ x, runGap s = { s with gaps := s.gaps.tail }.agentUpdate x false
      ((if s.timerPending then 1 else 0) + (s.gaps.headD []).count AgentMove.timerDue) := by
  rw [runGap, applyMoves, serveTimer_of_unmasked (by exact hmask)]
  obtain ⟨x, hx⟩ := exists_foldl_applyMove_of_unmasked_idle hs (s := State.agentUpdate
    { s with gaps := s.gaps.tail } s.input false (if s.timerPending then 1 else 0)) hmask rfl
  exact ⟨x, hx.trans (State.agentUpdate_agentUpdate ..)⟩

/-- Settles O42, by the two values of the mask. -/
theorem maskedTimerReadsAreDeferred : Obligations.MaskedTimerReadsAreDeferred := by
  intro s hs
  refine ⟨fun hmask => ?masked, fun hmask => ?unmasked⟩
  case masked =>
    obtain ⟨x, hgap⟩ := exists_runGap_of_masked hs hmask
    simp [hgap, State.agentUpdate]
  case unmasked =>
    obtain ⟨x, hgap⟩ := exists_runGap_of_unmasked hs hmask
    simp [hgap, State.agentUpdate]

end Sys2Proof.Machine
end

section
/-! PROOFS. The family of spec/70_reset_and_hazards.md. First the gap whose only move is a reset and
the INIT that follows it; then that POLL alone depends on the sample latches. -/

namespace Sys2Proof.Machine

/-! A reset during a run (rules R280 to R282 and R287) -/

theorem applyMoves_reset {s : State} (hidle : s.timerPending = false) (t : Settings) :
    applyMoves s [.reset t] = s.hostReset t := by
  rw [applyMoves, serveTimer_of_idle hidle]
  exact serveTimer_of_idle (s := s.hostReset t) hidle

theorem runGap_of_reset {s : State} {t : Settings} {g : List (List AgentMove)}
    (hgaps : s.gaps = [.reset t] :: g) (hidle : s.timerPending = false) :
    runGap s = { s with gaps := g }.hostReset t := by
  rw [runGap, hgaps]
  exact applyMoves_reset (by exact hidle) t

/-- The stage a reset leaves selects INIT. -/
theorem step_of_reset {s : State} {t : Settings} {g : List (List AgentMove)}
    (hgaps : s.gaps = [.reset t] :: g) (hidle : s.timerPending = false) :
    step s = exec .init ({ s with gaps := g }.hostReset t) := by
  rw [step, runGap_of_reset hgaps hidle]
  exact runStage_of_ok (decode_encode .init)

/-- After a reset there is nothing for INIT to keep: it derives the parameters afresh. -/
theorem exec_init_hostReset_parameters {s u : State} {t : Settings}
    (he : exec .init (s.hostReset t) = .next u) : ParametersFromSettings u :=
  exec_parametersFromSettings (decode_encode .init) (fun hstage => absurd rfl hstage) he

theorem exec_init_accumulators {s u : State} (he : exec .init s = .next u) (c : Chan) :
    (u.osc c).lp1 = fxZero ∧ (u.osc c).lp2 = fxZero := by
  rw [exec_init_eq] at he
  cases he
  cases c <;> exact ⟨rfl, rfl⟩

/-- Settles O9: the step is INIT from the reset state with the loaded Settings. What INIT does not
write is as `hostReset` leaves it. -/
theorem resetMoveStartsANewRun : Obligations.ResetMoveStartsANewRun := by
  intro s t g hgaps hidle
  have hinit := exec_init_eq ({ s with gaps := g }.hostReset t)
  exact ⟨_, (step_of_reset hgaps hidle).trans hinit, rfl, rfl, rfl, rfl, rfl, rfl, rfl, rfl,
    exec_init_hostReset_parameters hinit, exec_init_accumulators hinit, rfl, rfl, rfl, rfl⟩

/-! The sample latches are POLL's alone (rules R231 and R286) -/

/-- HSYNC is the one of these operations that branches, and its branch is on `tap_pending`; each of
the others is a chain of updates that reads no sample latch. -/
theorem exec_with_adcCode {i : Instr} {s t : State} (hi : i ≠ .poll) (he : exec i s = .next t)
    (c : AdcCodes) :
    exec i { s with input := { s.input with adcCode := c } } =
      .next { t with input := { t.input with adcCode := c } } := by
  cases i with
  | poll => exact absurd rfl hi
  | hsync =>
    cases htap : s.input.tapPending with
    | true =>
      rw [exec_hsync_of_tap htap] at he
      cases he
      exact exec_hsync_of_tap htap
    | false =>
      rw [exec_hsync_of_no_tap htap] at he
      cases he
      exact exec_hsync_of_no_tap htap
  | init =>
    rw [exec_init_eq] at he ⊢
    cases he
    rfl
  | _ =>
    cases he
    rfl

/-- Settles O44: every operation goes on, and all but POLL carry other latches through. -/
theorem laterSamplesDoNotTouchThePass : Obligations.LaterSamplesDoNotTouchThePass := by
  intro i s c hi
  obtain ⟨t, ht, -⟩ := exec_goes_on i s
  exact ⟨t, ht, exec_with_adcCode hi ht c⟩

end Sys2Proof.Machine
end
